-- ==== Sys2Proof/Word.lean ====
section
/-! DEFINITION. The value types of the block (spec 00_scope.md R7): bytes, the 16-bit checksum accumulator,
the 32-bit index operand, and the 4-byte tag identifier. -/

namespace Sys2Proof

/-- An element of every input and output sequence; also OPA, OPB and the command word (R7). -/
abbrev Byte := BitVec 8

/-- The checksum accumulator and the variants' seeds (R7, R104). -/
abbrev Word16 := BitVec 16

/-- The IDX operand port: 32 bits, two's complement (R60, R65). -/
abbrev Index := BitVec 32

/-- The tag identifier: exactly 4 bytes, handled only as a whole (R7, R21). `b0` is UID[0]. -/
structure Uid where
  b0 : Byte
  b1 : Byte
  b2 : Byte
  b3 : Byte
  deriving DecidableEq, Repr, Inhabited

end Sys2Proof
end

