-- ==== Sys2Proof/Syntax.lean ====
section
/-! DEFINITION. The commands of the block: one constructor for each of the 19 legal command words
(spec 30_encoding.md R62, R63; opcode_table.json). Operands are port signals, not part of the word (R60, R64),
so a command carries none; RESET is a transaction of its own, not a command word (R73). -/

namespace Sys2Proof

/-- The commands. Each docstring gives the command word and the rule that defines the command. -/
inductive Instr where
  /-- CMD 0x01, variant absent (R63, R106). -/
  | crc
  /-- CMD 0x21, Variant A (R63, R106). -/
  | crcA
  /-- CMD 0x41, Variant B (R63, R106). -/
  | crcB
  /-- CMD 0x02, standalone checksum append (R185). -/
  | append
  /-- CMD 0x03, byte address from digit and index (R181). -/
  | addrb
  /-- CMD 0x04, segment address (R182). -/
  | addrs
  /-- CMD 0x05, block-8 address (R183). -/
  | addr8
  /-- CMD 0x06, identifier setter (R150). -/
  | setuid
  /-- CMD 0x10, Request frame (R134). -/
  | req
  /-- CMD 0x11, WakeUp frame (R135). -/
  | wup
  /-- CMD 0x12, ReadId frame (R136). -/
  | rid
  /-- CMD 0x13, ReadAll frame (R137). -/
  | rall
  /-- CMD 0x14, Read frame (R138). -/
  | read
  /-- CMD 0x15, WriteErase frame (R139). -/
  | writee
  /-- CMD 0x16, WriteNoErase frame (R140). -/
  | writene
  /-- CMD 0x17, ReadSegment frame (R141). -/
  | rseg
  /-- CMD 0x18, Read8 frame (R142). -/
  | read8
  /-- CMD 0x19, WriteErase8 frame (R143). -/
  | writee8
  /-- CMD 0x1A, WriteNoErase8 frame (R144). -/
  | writene8
  deriving DecidableEq, Repr

end Sys2Proof
end

