-- ==== Sys2Proof/Decode.lean ====
section
/-! DEFINITION. The command word (spec 30_encoding.md R61 to R63, R66, R67): a decoder, total on all 256 words, that
rejects an illegal word by the name of the reason, and an encoder written from the same tables. -/

namespace Sys2Proof

/-- Why a command word is illegal: R66's four conditions. The block answers each with the same ILLEGAL_COMMAND
(notes/assumptions/15.md). -/
inductive IllegalWord where
  | reservedBitSet
  | reservedVariant
  | variantOnNonCrc
  | unassignedOp
  deriving DecidableEq, Repr

/-- What decoding answers: "Command | ILLEGAL" (R67). -/
inductive Decoded where
  | command (i : Instr)
  | illegal (why : IllegalWord)
  deriving DecidableEq, Repr

/-- OP = CMD[4:0] (R61). -/
def cmdOp (w : Byte) : BitVec 5 := w.extractLsb' 0 5

/-- VAR = CMD[6:5] (R61). -/
def cmdVar (w : Byte) : BitVec 2 := w.extractLsb' 5 2

/-- RSV = CMD[7] (R61). -/
def cmdRsv (w : Byte) : Bool := w.getLsbD 7

/-- The variants of OP = 0x01 (R63). -/
def decodeCrc (var : BitVec 2) : Decoded :=
  match var.toNat with
  | 0b00 => .command .crc
  | 0b01 => .command .crcA
  | 0b10 => .command .crcB
  | _ => .illegal .reservedVariant

/-- The other assigned OP values (R62). -/
def decodeOp (op : BitVec 5) : Decoded :=
  match op.toNat with
  | 0x02 => .command .append
  | 0x03 => .command .addrb
  | 0x04 => .command .addrs
  | 0x05 => .command .addr8
  | 0x06 => .command .setuid
  | 0x10 => .command .req
  | 0x11 => .command .wup
  | 0x12 => .command .rid
  | 0x13 => .command .rall
  | 0x14 => .command .read
  | 0x15 => .command .writee
  | 0x16 => .command .writene
  | 0x17 => .command .rseg
  | 0x18 => .command .read8
  | 0x19 => .command .writee8
  | 0x1A => .command .writene8
  | _ => .illegal .unassignedOp

/-- R67's pseudocode. -/
def decode (w : Byte) : Decoded :=
  if cmdRsv w then .illegal .reservedBitSet
  else if cmdOp w = 0x01#5 then decodeCrc (cmdVar w)
  else if cmdVar w ≠ 0#2 then .illegal .variantOnNonCrc
  else decodeOp (cmdOp w)

/-- The OP value of a command (R62). -/
def opCode : Instr → BitVec 5
  | .crc | .crcA | .crcB => 0x01
  | .append => 0x02
  | .addrb => 0x03
  | .addrs => 0x04
  | .addr8 => 0x05
  | .setuid => 0x06
  | .req => 0x10
  | .wup => 0x11
  | .rid => 0x12
  | .rall => 0x13
  | .read => 0x14
  | .writee => 0x15
  | .writene => 0x16
  | .rseg => 0x17
  | .read8 => 0x18
  | .writee8 => 0x19
  | .writene8 => 0x1A

/-- The VAR value of a command: 00 for every command but CRC.A and CRC.B (R63, R66). -/
def varCode : Instr → BitVec 2
  | .crcA => 0b01
  | .crcB => 0b10
  | .crc | .append | .addrb | .addrs | .addr8 | .setuid | .req | .wup | .rid | .rall | .read | .writee | .writene
  | .rseg | .read8 | .writee8 | .writene8 => 0b00

/-- The command word of a command: RSV, VAR and OP side by side (R61). -/
def encode (i : Instr) : Byte := 0#1 ++ varCode i ++ opCode i

/-- The command the decoder reads from an opcode-table row's bits, numbered as the table numbers them. Every command
is one byte wide (R61), so only the low 8 bits are the instruction's. -/
def decodeTableWord (nbits w : Nat) : Option Instr :=
  match decode (BitVec.ofNat 8 (w % 2 ^ nbits)) with
  | .command i => some i
  | .illegal _ => none

end Sys2Proof
end

