-- ==== Sys2Proof/Config.lean ====
section
/-! DEFINITION. What an implementation of the block fixes (spec 00_scope.md R8 to R10) and the values the spec
leaves unspecified (10_state.md R23). A configuration is plain data held in `State.cfg`, so a statement about every
state is a statement about every OPC and every SEQ_MAX (notes/assumptions/7.md, 8.md). -/

namespace Sys2Proof

/-- The eleven frame operations (R2): the index of the parameter OPC (R8). -/
inductive FrameOp where
  | request
  | wakeUp
  | readId
  | readAll
  | read
  | writeErase
  | writeNoErase
  | readSegment
  | read8
  | writeErase8
  | writeNoErase8
  deriving DecidableEq, Repr

/-- The ten OPEN entries of OPC (R8, R68). OPC(ReadId) is pinned to 0x78, so it has no entry here:
`Machine.opc` answers it. -/
structure OpcTable where
  request : Byte
  wakeUp : Byte
  readAll : Byte
  read : Byte
  writeErase : Byte
  writeNoErase : Byte
  readSegment : Byte
  read8 : Byte
  writeErase8 : Byte
  writeNoErase8 : Byte
  deriving DecidableEq, Repr

/-- The parameters of an instance (R8, R9). `seqMax = none` is the unbounded SEQ_MAX. -/
structure Config where
  opcTable : OpcTable
  seqMax : Option Nat
  deriving DecidableEq, Repr

/-- PRESUMED (notes/assumptions/7.md). The default configuration of OPC, R68's table; the spec itself marks it
"from general knowledge, not in source". -/
def OpcTable.default : OpcTable where
  request := 0x26
  wakeUp := 0x52
  readAll := 0x00
  read := 0x01
  writeErase := 0x53
  writeNoErase := 0x1A
  readSegment := 0x10
  read8 := 0x02
  writeErase8 := 0x54
  writeNoErase8 := 0x1B

/-- The default parameters: OPC as above, SEQ_MAX unbounded (R9). -/
def Config.default : Config where
  opcTable := OpcTable.default
  seqMax := none

/-- FREE VALUE (notes/assumptions/9.md). The unspecified UID of a block that is not constructed (R23, R31). -/
opaque Config.freeUid : Nat → Uid

/-- FREE VALUE (notes/assumptions/9.md). The unspecified APPEND_CRC of a block that is not constructed (R23, R31). -/
opaque Config.freeAppendCrc : Nat → Bool

end Sys2Proof
end

