-- ==== Sys2Proof/Machine/State.lean ====
section
/-! DEFINITION. The state of one block instance as plain data (spec 10_state.md R20, R29), the transactions a host may
present (30_encoding.md R60, 70_reset_and_hazards.md R230), the answers the block gives (60_exceptions.md R200 to R203),
and the state after reset. -/

namespace Sys2Proof.Machine

/-- The errors of R201 and the spec errors of R202. -/
inductive ErrorCode where
  | invalidInput
  | invalidIdentifier
  | invalidPayload
  | invalidSegmentIndex
  | invalidBlockIndex
  | illegalCommand
  | notConstructed
  deriving DecidableEq, Repr

/-- The spec's refusal reasons (R203). -/
inductive RefuseReason where
  | digitDomain
  | indexDomain
  | seqAbsent
  | seqTooLong
  deriving DecidableEq, Repr

/-- The value of STATUS or RST_STATUS. Its 8-bit code is `Status.code`; every refusal has the code 0xFF, and the
reason is kept for the reader (R203). -/
inductive Status where
  | ok
  | error (e : ErrorCode)
  | refused (r : RefuseReason)
  deriving DecidableEq, Repr

/-- The answer to the last transaction: STATUS and OUT of a command (R60), RST_STATUS of a construction (R230), or
none yet. No command reads it (R26; notes/assumptions/3.md). -/
inductive Response where
  | none
  | command (status : Status) (out : List Byte)
  | construction (status : Status)
  deriving DecidableEq, Repr

/-- The operand signals of the command port (R60). `seq` means something only when `seqValid` (SEQ_VALID) is 1. -/
structure Operands where
  opa : Byte
  opb : Byte
  idx : Index
  seqValid : Bool
  seq : List Byte
  deriving DecidableEq, Repr

/-- A command as the host presents it: CMD and the operand signals (R60). -/
structure Command where
  cmd : Byte
  ops : Operands
  deriving DecidableEq, Repr

/-- A construction as the host presents it (R230). `rstUid` means something only when `rstUidValid` is 1, `rstAppend`
only when `rstAppendValid` is 1. -/
structure Construction where
  rstUidValid : Bool
  rstUid : List Byte
  rstAppendValid : Bool
  rstAppend : Bool
  deriving DecidableEq, Repr

/-- One transaction of the host (R3, R230). -/
inductive Transaction where
  | command (c : Command)
  | construct (r : Construction)
  deriving DecidableEq, Repr

/-- One block instance. `built`, `uid`, `appendCrc` are the spec's architectural state (R20), `refusedMark` its sticky
REFUSED mark (R29). `cfg` holds the instance's parameters (R8, R9), which no step changes. `port`, `ops` and `resp` carry
the transactions in and the answers out (notes/assumptions/1.md to 3.md); `freeCount` numbers the free values
(notes/assumptions/9.md). -/
structure State where
  built : Bool
  uid : Uid
  appendCrc : Bool
  refusedMark : Bool
  cfg : Config
  port : List Transaction
  ops : Operands
  resp : Response
  freeCount : Nat
  deriving DecidableEq, Repr

/-- Nothing the spec describes stops the block: every failure is an answer on STATUS, after which "the block then
accepts the next command as usual" (R204, R205, R243). So no fault exists (notes/assumptions/13.md; safe: none can hide
a behaviour). -/
inductive Fault where
  deriving DecidableEq, Repr

/-- Why the model gives no next state. The spec's own refusals (R203) are not among them: they are next states with
STATUS = REFUSED (notes/assumptions/10.md). -/
inductive Refusal where
  /-- Raised by `exec`'s arm of a command that has no meaning yet; there is none (safe: the model stops). -/
  | notModelled (mnemonic : String)
  deriving DecidableEq, Repr

/-- The outcome of a step or of a command's meaning. -/
abbrev Result := Host.Outcome State Fault Refusal

/-- DESIGN CHOICE (notes/assumptions/2.md). The operand signals with nothing presented. -/
def Operands.zero : Operands where
  opa := 0
  opb := 0
  idx := 0
  seqValid := false
  seq := []

/-- The block at power-up, before any construction (R23, R231), with the parameters `c`: BUILT = 0, and UID and
APPEND_CRC unspecified (free values, notes/assumptions/9.md). -/
def State.powerUp (c : Config) : State where
  built := false
  uid := Config.freeUid 0
  appendCrc := Config.freeAppendCrc 0
  refusedMark := false
  cfg := c
  port := []
  ops := Operands.zero
  resp := .none
  freeCount := 1

/-- The block right after reset: after the construction `RESET -, -`, both inputs omitted (R230; R31, column
"construction, identifier omitted"; R231 lets a run start there; notes/assumptions/5.md), with the default parameters
(notes/assumptions/7.md, 8.md) and nothing presented on the port. -/
def State.reset : State where
  built := true
  uid := ⟨0x00, 0x00, 0x00, 0x00⟩
  appendCrc := true
  refusedMark := false
  cfg := Config.default
  port := []
  ops := Operands.zero
  resp := .construction .ok
  freeCount := 1

/-! ### Updates. One definition per kind of write, so that proofs name the write and not the record. -/

/-- Drive STATUS and OUT, or RST_STATUS. -/
def State.setResp (r : Response) (s : State) : State := { s with resp := r }

/-- Replace the tag identifier as a whole (R21). -/
def State.setUid (u : Uid) (s : State) : State := { s with uid := u }

/-- Write BUILT, UID and APPEND_CRC together, as a construction does (R230, R232). -/
def State.setBuilder (b : Bool) (u : Uid) (f : Bool) (s : State) : State :=
  { s with built := b, uid := u, appendCrc := f }

/-- Set the sticky REFUSED mark (R29). -/
def State.setRefused (s : State) : State := { s with refusedMark := true }

/-- Take the next free value's number. -/
def State.nextFree (s : State) : State := { s with freeCount := s.freeCount + 1 }

/-- Leave these transactions on the port. -/
def State.setPort (p : List Transaction) (s : State) : State := { s with port := p }

/-- Take the operand signals of an accepted command by value (R50). -/
def State.setOps (o : Operands) (s : State) : State := { s with ops := o }

end Sys2Proof.Machine
end

