-- ==== Sys2Proof/Machine/Operands.lean ====
section
/-! DEFINITION. Reading the operands of the command in progress (spec 30_encoding.md R60, R64, R65), the digit table of
ADDRB (42_helpers.md R180), and the length checks of byte-sequence operands (00_scope.md R9). -/

namespace Sys2Proof.Machine

/-- OPA as a u8, with no extension (R65). -/
def opa (s : State) : Byte := s.ops.opa

/-- OPB as a u8, with no extension (R65). -/
def opb (s : State) : Byte := s.ops.opb

/-- IDX as a signed s32 value (R65). -/
def idx (s : State) : Int := s.ops.idx.toInt

/-- The byte-sequence operand: absent when SEQ_VALID = 0, which is not the empty sequence (R13, R60). -/
def seqOperand (o : Operands) : Option (List Byte) := if o.seqValid then some o.seq else none

/-- `len(SEQ) > SEQ_MAX` (R9): only a bounded SEQ_MAX can refuse. -/
def exceedsSeqMax (c : Config) (l : List Byte) : Bool :=
  match c.seqMax with
  | none => false
  | some m => m < l.length

/-- `SEQ_VALID = 1 and len(SEQ) > SEQ_MAX`, the condition of SEQ_TOO_LONG (R203). -/
def seqTooLong (s : State) : Bool :=
  match seqOperand s.ops with
  | none => false
  | some l => exceedsSeqMax s.cfg l

/-- R180: the ASCII codes of '0' to '9' and 'A' to 'F' are the digits 0 to 15; every other code has no digit. -/
def digitValue (c : Byte) : Option Nat :=
  if 0x30 ≤ c.toNat ∧ c.toNat ≤ 0x39 then some (c.toNat - 0x30)
  else if 0x41 ≤ c.toNat ∧ c.toNat ≤ 0x46 then some (c.toNat - 0x41 + 10)
  else none

/-- An index inside 0 to `hi` as a number, and nothing for one outside (R65: the signed value is compared). -/
def indexIn (hi : Nat) (i : Int) : Option Nat := if 0 ≤ i ∧ i ≤ hi then some i.toNat else none

/-- The identifier's bytes, UID[0] first (R44). -/
def uidBytes (u : Uid) : List Byte := [u.b0, u.b1, u.b2, u.b3]

/-- A sequence as an identifier: it must be exactly 4 bytes (R21, R150, R230). -/
def uidOfBytes : List Byte → Option Uid
  | [a, b, c, d] => some ⟨a, b, c, d⟩
  | _ => none

/-- An operand as an 8-byte payload: present and exactly 8 bytes (R145). -/
def payload8 (o : Option (List Byte)) : Option (List Byte) :=
  match o with
  | none => none
  | some l => if l.length = 8 then some l else none

end Sys2Proof.Machine
end

