-- ==== Sys2Proof/Machine/Checksum.lean ====
section
/-! DEFINITION. The checksum engine (spec 40_checksum.md R100 to R105): the step as the document writes it, which
governs, and the two forms the spec derives from it (R101 per bit, R102 bit-serial). -/

namespace Sys2Proof.Machine

/-- The checksum variants (R104). -/
inductive Variant where
  | a
  | b
  deriving DecidableEq, Repr

/-- `lo8(v)` (R12). -/
def lo8 (v : Word16) : Byte := v.extractLsb' 0 8

/-- `hi8(v)` (R12). -/
def hi8 (v : Word16) : Byte := v.extractLsb' 8 8

/-- One step of the accumulator (R100). -/
def crcStep (acc : Word16) (b : Byte) : Word16 :=
  let x1 : Byte := b ^^^ lo8 acc
  let x2 : Byte := x1 ^^^ (x1 <<< 4)
  let w : Word16 := x2.zeroExtend 16
  (acc >>> 8) ^^^ (w <<< 8) ^^^ (w <<< 3) ^^^ (w >>> 4)

/-- The per-bit form of the step (R101): `a i` is acc[i], `b i` is b[i], and the list is n0 to n15. -/
def crcStepBits (acc : Word16) (byte : Byte) : Word16 :=
  let a := acc.getLsbD
  let b := byte.getLsbD
  BitVec.ofBoolListLE [
    a 0 ^^ a 4 ^^ a 8 ^^ b 0 ^^ b 4,
    a 1 ^^ a 5 ^^ a 9 ^^ b 1 ^^ b 5,
    a 2 ^^ a 6 ^^ a 10 ^^ b 2 ^^ b 6,
    a 0 ^^ a 3 ^^ a 7 ^^ a 11 ^^ b 0 ^^ b 3 ^^ b 7,
    a 1 ^^ a 12 ^^ b 1,
    a 2 ^^ a 13 ^^ b 2,
    a 3 ^^ a 14 ^^ b 3,
    a 0 ^^ a 4 ^^ a 15 ^^ b 0 ^^ b 4,
    a 0 ^^ a 1 ^^ a 5 ^^ b 0 ^^ b 1 ^^ b 5,
    a 1 ^^ a 2 ^^ a 6 ^^ b 1 ^^ b 2 ^^ b 6,
    a 2 ^^ a 3 ^^ a 7 ^^ b 2 ^^ b 3 ^^ b 7,
    a 3 ^^ b 3,
    a 0 ^^ a 4 ^^ b 0 ^^ b 4,
    a 1 ^^ a 5 ^^ b 1 ^^ b 5,
    a 2 ^^ a 6 ^^ b 2 ^^ b 6,
    a 3 ^^ a 7 ^^ b 3 ^^ b 7]

/-- One shift of the bit-serial form (R102). -/
def serialShift (t : Word16) : Word16 := if t.getLsbD 0 then (t >>> 1) ^^^ 0x8408 else t >>> 1

/-- `n` shifts of the bit-serial form (R102). -/
def serialShifts : Nat → Word16 → Word16
  | 0, t => t
  | n + 1, t => serialShifts n (serialShift t)

/-- The bit-serial form of the step: eight shifts (R102). -/
def crcStepSerial (acc : Word16) (b : Byte) : Word16 := serialShifts 8 (acc ^^^ b.zeroExtend 16)

/-- The accumulator after a sequence, "in sequence order" (R103). -/
def crcAcc (seed : Word16) : List Byte → Word16
  | [] => seed
  | b :: rest => crcAcc (crcStep seed b) rest

/-- The read-only variant table: the seeds (R104). -/
def variantSeed : Variant → Word16
  | .a => 0x6363
  | .b => 0xFFFF

/-- The read-only variant table: the inversion flags (R104). -/
def variantInvert : Variant → Bool
  | .a => false
  | .b => true

/-- The accumulator after the variant's inversion, if it has one (R103). -/
def crcFinal (v : Variant) (data : List Byte) : Word16 :=
  if variantInvert v then ~~~ crcAcc (variantSeed v) data else crcAcc (variantSeed v) data

/-- A checksum as output: low byte first (R42, R103). -/
def crcCompute (v : Variant) (data : List Byte) : List Byte := [lo8 (crcFinal v data), hi8 (crcFinal v data)]

/-- `appendIfConfigured` (R131). -/
def appendIfConfigured (flag : Bool) (l : List Byte) : List Byte := if flag then l ++ crcCompute .b l else l

end Sys2Proof.Machine
end

