-- ==== Sys2Proof/Machine/Ops.lean ====
section
/-! DEFINITION. The operations every command shares: the three ways a command ends (spec 00_scope.md R14), the two checks
made before a command's own (60_exceptions.md R206), and a construction (70_reset_and_hazards.md R230). The block takes no
traps (R209): raising an error IS its exception, and it only drives STATUS. -/

namespace Sys2Proof.Machine

/-- `return out`: STATUS <- OK, OUT <- out (R14). The state the command writes is written before, in `s`. -/
def ret (out : List Byte) (s : State) : Result := .next (s.setResp (.command .ok out))

/-- `raise Error(code)`: STATUS <- code, OUT <- [], and no state is written (R14, R204). -/
def raise (e : ErrorCode) (s : State) : Result := .next (s.setResp (.command (.error e) []))

/-- `refuse(reason)`: the sticky mark is set, STATUS <- REFUSED, OUT <- [], and no architectural state is written
(R14, R29, R203). -/
def refuse (r : RefuseReason) (s : State) : Result := .next (s.setRefused.setResp (.command (.refused r) []))

/-- The first check of a builder command (R202, R206): NOT_CONSTRUCTED while BUILT = 0. -/
def requireBuilt (k : State → Result) (s : State) : Result := if s.built then k s else raise .notConstructed s

/-- The second check, of a command that reads SEQ (R203, R206): a sequence beyond SEQ_MAX is refused. -/
def requireSeqFits (k : State → Result) (s : State) : Result := if seqTooLong s then refuse .seqTooLong s else k s

/-- An illegal command word ends with ILLEGAL_COMMAND (R66, R202). -/
def illegalCommand (s : State) : Result := raise .illegalCommand s

/-- The identifier a construction installs: all-zero if omitted, else the 4 bytes given, else none (R230). -/
def constructionUid (r : Construction) : Option Uid :=
  if r.rstUidValid then uidOfBytes r.rstUid else some ⟨0x00, 0x00, 0x00, 0x00⟩

/-- The flag a construction installs: 1 if omitted (R230). -/
def constructionAppend (r : Construction) : Bool := if r.rstAppendValid then r.rstAppend else true

/-- A construction that succeeds (R230, R232). -/
def constructOk (u : Uid) (f : Bool) (s : State) : Result :=
  .next ((s.setBuilder true u f).setResp (.construction .ok))

/-- A construction that fails: BUILT <- 0 (R230), and UID and APPEND_CRC are unspecified from then on (R23, R31): free
values (notes/assumptions/9.md). -/
def constructFail (s : State) : Result :=
  .next ((s.setBuilder false (Config.freeUid s.freeCount) (Config.freeAppendCrc s.freeCount)).nextFree.setResp
    (.construction (.error .invalidIdentifier)))

/-- A construction (R230). It reads no previous state and leaves the REFUSED mark alone. -/
def construct (r : Construction) (s : State) : Result :=
  match constructionUid r with
  | some u => constructOk u (constructionAppend r) s
  | none => constructFail s

end Sys2Proof.Machine
end

