-- ==== Sys2Proof/Machine/Crc.lean ====
section
/-! DEFINITION. The checksum commands CRC, CRC.A and CRC.B (spec 40_checksum.md R106) and the standalone checksum append
APPEND (42_helpers.md R185). -/

namespace Sys2Proof.Machine

/-- R106's pseudocode with the variant `v`, `none` for the absent variant (VAR = 00). BUILT is not needed. -/
def crcCommand (v : Option Variant) (s : State) : Result :=
  requireSeqFits (fun s =>
    match v, seqOperand s.ops with
    | some v, some d => ret (crcCompute v d) s
    | _, _ => raise .invalidInput s) s

/-- CRC, the variant absent (R106, R63). -/
def execCrc (s : State) : Result := crcCommand none s

/-- CRC.A (R106). -/
def execCrcA (s : State) : Result := crcCommand (some .a) s

/-- CRC.B (R106). -/
def execCrcB (s : State) : Result := crcCommand (some .b) s

/-- APPEND (R185): an absent sequence is an error when a checksum is asked for, and refused when it is not. -/
def execAppend (s : State) : Result :=
  requireBuilt (requireSeqFits fun s =>
    match seqOperand s.ops with
    | some l => ret (appendIfConfigured s.appendCrc l) s
    | none => if s.appendCrc then raise .invalidInput s else refuse .seqAbsent s) s

end Sys2Proof.Machine
end

