-- ==== Sys2Proof/Machine/Frames.lean ====
section
/-! DEFINITION. The eleven frame commands (spec 41_frames.md R130 to R145) over the frame formats of 30_encoding.md
R68 to R71. A frame is assembled as R130 says: zero-initialised, then written field by field. -/

namespace Sys2Proof.Machine

/-- The four pre-checksum layouts (R69). -/
inductive FrameFormat where
  | fs
  | fz7
  | fu7
  | fu14
  deriving DecidableEq, Repr

/-- The optional fields an operation fills: the address byte at offset 1, the data byte at offset 2, the 8-byte payload
at offsets 2 to 9 (R69). -/
structure FrameFields where
  addr : Option Byte
  data : Option Byte
  payload : Option (List Byte)
  deriving DecidableEq, Repr

/-- The protocol opcode byte (R8, R68): OPC(ReadId) is pinned to 0x78, the others are the instance's parameters. -/
def opc (c : Config) : FrameOp → Byte
  | .request => c.opcTable.request
  | .wakeUp => c.opcTable.wakeUp
  | .readId => 0x78
  | .readAll => c.opcTable.readAll
  | .read => c.opcTable.read
  | .writeErase => c.opcTable.writeErase
  | .writeNoErase => c.opcTable.writeNoErase
  | .readSegment => c.opcTable.readSegment
  | .read8 => c.opcTable.read8
  | .writeErase8 => c.opcTable.writeErase8
  | .writeNoErase8 => c.opcTable.writeNoErase8

/-- The format of each operation (R69). -/
def frameFormat : FrameOp → FrameFormat
  | .request | .wakeUp => .fs
  | .readId => .fz7
  | .readAll | .read | .writeErase | .writeNoErase => .fu7
  | .readSegment | .read8 | .writeErase8 | .writeNoErase8 => .fu14

/-- The pre-checksum length of a format (R69, R71). -/
def preLength : FrameFormat → Nat
  | .fs => 1
  | .fz7 => 7
  | .fu7 => 7
  | .fu14 => 14

/-- Where a format's identifier span starts, if it has one (R69). -/
def identOffset : FrameFormat → Option Nat
  | .fs | .fz7 => none
  | .fu7 => some 3
  | .fu14 => some 10

/-- `zeros(n)` (R13). -/
def zeros (n : Nat) : List Byte := List.replicate n 0x00

/-- `f[k + j] = bs[j]` for every element of `bs` (R13, R44, R45). -/
def writeSpan (f : List Byte) (k : Nat) : List Byte → List Byte
  | [] => f
  | b :: rest => writeSpan (f.set k b) (k + 1) rest

/-- Write a one-byte field at an offset, if the operation fills it. -/
def writeField (f : List Byte) (k : Nat) : Option Byte → List Byte
  | none => f
  | some b => f.set k b

/-- Write a span at an offset, if the operation fills it. -/
def writeSpanField (f : List Byte) (k : Nat) : Option (List Byte) → List Byte
  | none => f
  | some bs => writeSpan f k bs

/-- The identifier, written into the format's span if it has one (R44, R130). -/
def writeIdent (f : List Byte) (fmt : FrameFormat) (u : Uid) : List Byte :=
  match identOffset fmt with
  | none => f
  | some q => writeSpan f q (uidBytes u)

/-- The pre-checksum frame: zero-initialised, then opcode, fixed fields and identifier at their offsets (R130). -/
def preFrame (c : Config) (u : Uid) (op : FrameOp) (x : FrameFields) : List Byte :=
  let fmt := frameFormat op
  let f := (zeros (preLength fmt)).set 0 (opc c op)
  let f := writeField f 1 x.addr
  let f := writeField f 2 x.data
  let f := writeSpanField f 2 x.payload
  writeIdent f fmt u

/-- `buildFrame` (R130): the pre-checksum frame with its trailer, if the builder is configured to append it. -/
def buildFrame (op : FrameOp) (x : FrameFields) (s : State) : List Byte :=
  appendIfConfigured s.appendCrc (preFrame s.cfg s.uid op x)

/-- A frame command without a payload (R132): it can fail only with NOT_CONSTRUCTED. -/
def frameCommand (op : FrameOp) (x : FrameFields) (s : State) : Result :=
  requireBuilt (fun s => ret (buildFrame op x s) s) s

/-- A frame command with an 8-byte payload (R132, R145). -/
def payloadCommand (op : FrameOp) (s : State) : Result :=
  requireBuilt (requireSeqFits fun s =>
    match payload8 (seqOperand s.ops) with
    | some p => ret (buildFrame op ⟨some (opa s), none, some p⟩ s) s
    | none => raise .invalidPayload s) s

/-- REQ (R134). -/
def execReq (s : State) : Result := frameCommand .request ⟨none, none, none⟩ s

/-- WUP (R135). -/
def execWup (s : State) : Result := frameCommand .wakeUp ⟨none, none, none⟩ s

/-- RID (R136). -/
def execRid (s : State) : Result := frameCommand .readId ⟨none, none, none⟩ s

/-- RALL (R137). -/
def execRall (s : State) : Result := frameCommand .readAll ⟨none, none, none⟩ s

/-- READ (R138). -/
def execRead (s : State) : Result := frameCommand .read ⟨some (opa s), none, none⟩ s

/-- WRITEE (R139). -/
def execWritee (s : State) : Result := frameCommand .writeErase ⟨some (opa s), some (opb s), none⟩ s

/-- WRITENE (R140). -/
def execWritene (s : State) : Result := frameCommand .writeNoErase ⟨some (opa s), some (opb s), none⟩ s

/-- RSEG (R141). -/
def execRseg (s : State) : Result := frameCommand .readSegment ⟨some (opa s), none, none⟩ s

/-- READ8 (R142). -/
def execRead8 (s : State) : Result := frameCommand .read8 ⟨some (opa s), none, none⟩ s

/-- WRITEE8 (R143). -/
def execWritee8 (s : State) : Result := payloadCommand .writeErase8 s

/-- WRITENE8 (R144). -/
def execWritene8 (s : State) : Result := payloadCommand .writeNoErase8 s

end Sys2Proof.Machine
end

