-- ==== Sys2Proof/Machine/Helpers.lean ====
section
/-! DEFINITION. The address helpers ADDRB, ADDRS and ADDR8 (spec 42_helpers.md R180 to R183). They read no builder
state. -/

namespace Sys2Proof.Machine

/-- The byte address of a digit and a sub-byte index: `(d << 3) + IDX` (R181). -/
def byteAddress (d i : Nat) : Byte := BitVec.ofNat 8 (d <<< 3 + i)

/-- The segment address of an index: `IDX << 5` (R182; 90_conflicts.md C1; notes/assumptions/11.md). -/
def segmentAddress (i : Nat) : Byte := BitVec.ofNat 8 (i <<< 5)

/-- The block-8 address of an index, "value passed through unchanged" (R183). -/
def blockAddress (i : Nat) : Byte := BitVec.ofNat 8 i

/-- ADDRB (R181). The digit is checked first. -/
def execAddrb (s : State) : Result :=
  match digitValue (opa s) with
  | none => refuse .digitDomain s
  | some d =>
    match indexIn 7 (idx s) with
    | none => refuse .indexDomain s
    | some i => ret [byteAddress d i] s

/-- ADDRS (R182). -/
def execAddrs (s : State) : Result :=
  match indexIn 3 (idx s) with
  | none => raise .invalidSegmentIndex s
  | some i => ret [segmentAddress i] s

/-- ADDR8 (R183). -/
def execAddr8 (s : State) : Result :=
  match indexIn 0x3F (idx s) with
  | none => raise .invalidBlockIndex s
  | some i => ret [blockAddress i] s

end Sys2Proof.Machine
end

