-- ==== Sys2Proof/Machine/Identifier.lean ====
section
/-! DEFINITION. The identifier setter SETUID (spec 41_frames.md R150). -/

namespace Sys2Proof.Machine

/-- SETUID (R150): UID is written as a whole, and only on success. -/
def execSetuid (s : State) : Result :=
  requireBuilt (requireSeqFits fun s =>
    match (seqOperand s.ops).bind uidOfBytes with
    | some u => ret [] (s.setUid u)
    | none => raise .invalidIdentifier s) s

end Sys2Proof.Machine
end

