-- ==== Sys2Proof/Machine/Dispatch.lean ====
section
/-! DEFINITION. The meaning of each command (spec 30_encoding.md R62, R63): one arm per constructor of `Instr`. -/

namespace Sys2Proof.Machine

/-- One command performed on the state (R3). The operand signals are `s.ops`. -/
def exec (i : Instr) (s : State) : Host.Outcome State Fault Refusal :=
  match i with
  -- checksum engine
  | .crc => Sys2Proof.Machine.execCrc s
  | .crcA => Sys2Proof.Machine.execCrcA s
  | .crcB => Sys2Proof.Machine.execCrcB s
  | .append => Sys2Proof.Machine.execAppend s
  -- address helpers
  | .addrb => Sys2Proof.Machine.execAddrb s
  | .addrs => Sys2Proof.Machine.execAddrs s
  | .addr8 => Sys2Proof.Machine.execAddr8 s
  -- identifier setter
  | .setuid => Sys2Proof.Machine.execSetuid s
  -- frames
  | .req => Sys2Proof.Machine.execReq s
  | .wup => Sys2Proof.Machine.execWup s
  | .rid => Sys2Proof.Machine.execRid s
  | .rall => Sys2Proof.Machine.execRall s
  | .read => Sys2Proof.Machine.execRead s
  | .writee => Sys2Proof.Machine.execWritee s
  | .writene => Sys2Proof.Machine.execWritene s
  | .rseg => Sys2Proof.Machine.execRseg s
  | .read8 => Sys2Proof.Machine.execRead8 s
  | .writee8 => Sys2Proof.Machine.execWritee8 s
  | .writene8 => Sys2Proof.Machine.execWritene8 s

end Sys2Proof.Machine
end

