-- ==== Sys2Proof/Machine/Step.lean ====
section
/-! DEFINITION. One step: the block accepts the oldest transaction on its port and performs it whole
(spec 00_scope.md R3, 20_memory.md R48, R52). -/

namespace Sys2Proof.Machine

/-- Perform an accepted command: decode its word (R67) and run it, or answer ILLEGAL_COMMAND (R66). -/
def performCommand (w : Byte) (s : State) : Host.Outcome State Fault Refusal :=
  match decode w with
  | .command i => exec i s
  | .illegal _ => illegalCommand s

/-- One step. With nothing on the port the block does nothing (R233). -/
def step (s : State) : Host.Outcome State Fault Refusal :=
  match s.port with
  | [] => .next s
  | .command c :: rest => performCommand c.cmd ((s.setPort rest).setOps c.ops)
  | .construct r :: rest => construct r (s.setPort rest)

/-- A command with this word, its operand signals all zero, presented where the next step accepts it. -/
def State.withFetchWord (s : State) (nbits w : Nat) : State :=
  s.setPort (.command ⟨BitVec.ofNat 8 (w % 2 ^ nbits), Operands.zero⟩ :: s.port)

end Sys2Proof.Machine
end

