-- ==== Sys2Proof/Machine/Assembler.lean ====
section
/-! DEFINITION. The assembler spelling of transactions (spec 30_encoding.md R73): the text of one line to the transaction
it stands for. It is notation, not hardware: no step uses it (notes/assumptions/16.md). -/

namespace Sys2Proof.Machine

/-- An operand as written (R73): a byte, an index, a digit character's code, or a byte sequence, where `-` is ABSENT
(or, in RESET, omitted). -/
inductive AsmArg where
  | byte (b : Byte)
  | index (n : Int)
  | digit (c : Byte)
  | seq (q : Option (List Byte))
  deriving DecidableEq, Repr

/-- The operand signals of a byte sequence as written: SEQ_VALID = 0 for ABSENT (R60, R73). -/
def seqSignals (q : Option (List Byte)) : Operands :=
  match q with
  | none => Operands.zero
  | some l => { Operands.zero with seqValid := true, seq := l }

/-- An index as the 32-bit IDX signal, if it fits (R60, R73). -/
def indexSignal (n : Int) : Option Index :=
  if -2147483648 ≤ n ∧ n ≤ 2147483647 then some (BitVec.ofInt 32 n) else none

/-- The operand signals of a command, from its operands in the order R73's table gives. Ports it does not name are 0. -/
def asmOperands : Instr → List AsmArg → Option Operands
  | .crc, [.seq q] | .crcA, [.seq q] | .crcB, [.seq q] | .append, [.seq q] | .setuid, [.seq q] => some (seqSignals q)
  | .addrb, [.digit c, .index n] => (indexSignal n).map fun i => { Operands.zero with opa := c, idx := i }
  | .addrs, [.index n] | .addr8, [.index n] => (indexSignal n).map fun i => { Operands.zero with idx := i }
  | .req, [] | .wup, [] | .rid, [] | .rall, [] => some Operands.zero
  | .read, [.byte a] | .rseg, [.byte a] | .read8, [.byte a] => some { Operands.zero with opa := a }
  | .writee, [.byte a, .byte d] | .writene, [.byte a, .byte d] => some { Operands.zero with opa := a, opb := d }
  | .writee8, [.byte a, .seq q] | .writene8, [.byte a, .seq q] => some { seqSignals q with opa := a }
  | _, _ => none

/-- A command's transaction. -/
def asmCommand (i : Instr) (args : List AsmArg) : Option Transaction :=
  (asmOperands i args).map fun o => .command ⟨encode i, o⟩

/-- `RESET uid, flag`: the construction transaction (R73, R230). -/
def asmReset : List AsmArg → Option Transaction
  | [.seq u, .seq none] => some (.construct ⟨u.isSome, u.getD [], false, false⟩)
  | [.seq u, .index 0] => some (.construct ⟨u.isSome, u.getD [], true, false⟩)
  | [.seq u, .index 1] => some (.construct ⟨u.isSome, u.getD [], true, true⟩)
  | _ => none

/-- `.cmd 0xNN`: a command word written out, with a byte sequence or without (R73). -/
def asmCmd : List AsmArg → Option Transaction
  | [.byte w] => some (.command ⟨w, Operands.zero⟩)
  | [.byte w, .seq q] => some (.command ⟨w, seqSignals q⟩)
  | _ => none

/-- The tokens of a line. -/
inductive AsmToken where
  | word (w : List Char)
  | byte (b : Byte)
  | index (n : Int)
  | digit (c : Byte)
  | comma
  | openBrace
  | closeBrace
  | dash
  deriving DecidableEq, Repr

/-- A hex digit's value. -/
def hexDigit (c : Char) : Option Nat :=
  if '0' ≤ c ∧ c ≤ '9' then some (c.toNat - 48)
  else if 'A' ≤ c ∧ c ≤ 'F' then some (c.toNat - 55)
  else if 'a' ≤ c ∧ c ≤ 'f' then some (c.toNat - 87)
  else none

/-- A decimal digit? -/
def isDecimal (c : Char) : Bool := '0' ≤ c && c ≤ '9'

/-- A character of a mnemonic: a capital letter, a digit, a dot, or a letter of `.cmd`. -/
def isWordChar (c : Char) : Bool := ('A' ≤ c && c ≤ 'Z') || ('a' ≤ c && c ≤ 'z') || isDecimal c || c == '.'

/-- The number a run of decimal digits writes. -/
def decimalValue (ds : List Char) : Nat := ds.foldl (fun n d => 10 * n + (d.toNat - 48)) 0

/-- One line's tokens; `;` starts a comment. The fuel is the line's length. -/
def lexLine : Nat → List Char → Option (List AsmToken)
  | 0, [] => some []
  | 0, _ :: _ => none
  | _ + 1, [] => some []
  | fuel + 1, c :: rest =>
    if c == ';' then some []
    else if c == ' ' then lexLine fuel rest
    else if c == ',' then (lexLine fuel rest).map (.comma :: ·)
    else if c.toNat == 123 then (lexLine fuel rest).map (.openBrace :: ·)
    else if c.toNat == 125 then (lexLine fuel rest).map (.closeBrace :: ·)
    else if c == '\'' then
      match rest with
      | d :: e :: rest' =>
        if e == '\'' && d.toNat < 256 then (lexLine fuel rest').map (.digit (BitVec.ofNat 8 d.toNat) :: ·) else none
      | _ => none
    else if c == '-' then
      match rest.span isDecimal with
      | ([], _) => (lexLine fuel rest).map (.dash :: ·)
      | (ds, rest') => (lexLine fuel rest').map (.index (-(decimalValue ds : Int)) :: ·)
    else if c == '0' && rest.head? == some 'x' then
      match rest with
      | _ :: h :: l :: rest' =>
        match hexDigit h, hexDigit l with
        | some h, some l => (lexLine fuel rest').map (.byte (BitVec.ofNat 8 (16 * h + l)) :: ·)
        | _, _ => none
      | _ => none
    else if isDecimal c then
      match rest.span isDecimal with
      | (ds, rest') => (lexLine fuel rest').map (.index (decimalValue (c :: ds)) :: ·)
    else if isWordChar c then
      match rest.span isWordChar with
      | (w, rest') => (lexLine fuel rest').map (.word (c :: w) :: ·)
    else none

/-- The bytes of a sequence after its opening brace, when there is at least one. -/
def asmBytes : List AsmToken → Option (List Byte × List AsmToken)
  | .byte b :: .comma :: rest => (asmBytes rest).map fun p => (b :: p.1, p.2)
  | .byte b :: .closeBrace :: rest => some ([b], rest)
  | _ => none

/-- One operand and the tokens after it. -/
def asmArg : List AsmToken → Option (AsmArg × List AsmToken)
  | .byte b :: rest => some (.byte b, rest)
  | .index n :: rest => some (.index n, rest)
  | .digit c :: rest => some (.digit c, rest)
  | .dash :: rest => some (.seq none, rest)
  | .openBrace :: .closeBrace :: rest => some (.seq (some []), rest)
  | .openBrace :: rest => (asmBytes rest).map fun p => (.seq (some p.1), p.2)
  | _ => none

/-- The operands of a line, separated by commas. The fuel is the number of tokens. -/
def asmArgs : Nat → List AsmToken → Option (List AsmArg)
  | _, [] => some []
  | 0, _ :: _ => none
  | fuel + 1, ts =>
    match asmArg ts with
    | some (a, []) => some [a]
    | some (a, .comma :: t :: rest) => (asmArgs fuel (t :: rest)).map (a :: ·)
    | _ => none

/-- The operands after a mnemonic. `.cmd 0xNN seq` writes its word and its sequence without a comma, so a byte sequence
may follow a byte directly there (R73; 95_test_vectors.md L2-2). -/
def asmCmdArgs : List AsmToken → Option (List AsmArg)
  | [.byte w] => some [.byte w]
  | .byte w :: rest => (asmArgs rest.length rest).map (.byte w :: ·)
  | _ => none

/-- The spelling of each command (R73, opcode_table.json). -/
def spelling : Instr → String
  | .crc => "CRC"
  | .crcA => "CRC.A"
  | .crcB => "CRC.B"
  | .append => "APPEND"
  | .addrb => "ADDRB"
  | .addrs => "ADDRS"
  | .addr8 => "ADDR8"
  | .setuid => "SETUID"
  | .req => "REQ"
  | .wup => "WUP"
  | .rid => "RID"
  | .rall => "RALL"
  | .read => "READ"
  | .writee => "WRITEE"
  | .writene => "WRITENE"
  | .rseg => "RSEG"
  | .read8 => "READ8"
  | .writee8 => "WRITEE8"
  | .writene8 => "WRITENE8"

/-- Every command. -/
def allInstrs : List Instr :=
  [.crc, .crcA, .crcB, .append, .addrb, .addrs, .addr8, .setuid, .req, .wup, .rid, .rall, .read, .writee, .writene,
    .rseg, .read8, .writee8, .writene8]

/-- The command a mnemonic spells. -/
def instrOfSpelling (w : List Char) : Option Instr := allInstrs.find? fun i => (spelling i).toList == w

/-- One line of assembly text: nothing for a blank or comment line, else the transaction it stands for; `none` for a
line R73 does not allow. -/
def assembleLine (text : List Char) : Option (Option Transaction) :=
  match lexLine text.length text with
  | none => none
  | some [] => some none
  | some (.word w :: rest) =>
    if w == "RESET".toList then ((asmArgs rest.length rest).bind asmReset).map some
    else if w == ".cmd".toList then ((asmCmdArgs rest).bind asmCmd).map some
    else
      match instrOfSpelling w with
      | some i => ((asmArgs rest.length rest).bind (asmCommand i)).map some
      | none => none
  | some _ => none

end Sys2Proof.Machine
end

