-- ==== Sys2Proof/Machine/Flags.lean ====
section
/-! DEFINITION. The block has no flags or condition codes; a command's only indicators are its STATUS and OUT
(spec 10_state.md R26). This file holds the 8-bit codes that STATUS and RST_STATUS carry (60_exceptions.md R200 to R203). -/

namespace Sys2Proof.Machine

/-- The STATUS code of an error (R201) or spec error (R202). -/
def errorCode : ErrorCode → Byte
  | .invalidInput => 0x01
  | .invalidIdentifier => 0x02
  | .invalidPayload => 0x03
  | .invalidSegmentIndex => 0x04
  | .invalidBlockIndex => 0x05
  | .illegalCommand => 0x10
  | .notConstructed => 0x11

/-- The STATUS code of an outcome: OK is 0x00 (R200), a refusal 0xFF whatever its reason (R203). -/
def statusCode : Status → Byte
  | .ok => 0x00
  | .error e => errorCode e
  | .refused _ => 0xFF

/-- The status of an answer, if there is one. -/
def responseStatus : Response → Option Status
  | .none => Option.none
  | .command st _ => some st
  | .construction st => some st

/-- The 8-bit value the host reads on STATUS or RST_STATUS, if there is an answer. -/
def responseCode (r : Response) : Option Byte := (responseStatus r).map statusCode

/-- The bytes the host reads on OUT; a construction has no such output (R230). -/
def responseOut : Response → List Byte
  | .command _ out => out
  | .none | .construction _ => []

end Sys2Proof.Machine
end

