-- ==== Sys2Proof/Machine/System.lean ====
section
/-! DEFINITION. What surrounds one instance: hosts that present transactions (spec 20_memory.md R52, R53), and several
instances side by side (10_state.md R30, 60_exceptions.md R211). -/

namespace Sys2Proof.Machine

/-- A host presents a transaction: the port accepts it after those presented before it (R52). -/
def State.present (tx : Transaction) (s : State) : State := s.setPort (s.port ++ [tx])

/-- Any number of block instances, each with its own state (R30, R211). -/
abbrev System := List State

/-- Instance `k` takes one step and the others none; a `k` that names no instance does nothing
(notes/assumptions/14.md). -/
def stepInstance (k : Nat) (sys : System) : Host.Outcome System Fault Refusal :=
  match sys[k]? with
  | none => .next sys
  | some s =>
    match step s with
    | .next t => .next (sys.set k t)
    | .fault f => .fault f
    | .refused r => .refused r

/-- A host presents a transaction to instance `k`. -/
def presentTo (k : Nat) (tx : Transaction) (sys : System) : System := sys.modify k (State.present tx)

end Sys2Proof.Machine
end

