-- ==== Sys2Proof/WellFormed.lean ====
section
/-! DEFINITION. The checks of form the spec states: which command words are legal (30_encoding.md R66) and which
values SEQ_MAX may take (00_scope.md R9). They are written from R66's list, in numbers, apart from the decoder, which
follows R67's pseudocode in bit fields. -/

namespace Sys2Proof

/-- CMD[7] = 0: the reserved bit is clear (R66, first line). -/
def CmdWord.reservedClear (w : Byte) : Bool := w.toNat < 128

/-- OP, the low five bits of the command word, as a number (R61). -/
def CmdWord.op (w : Byte) : Nat := w.toNat % 32

/-- VAR, the two bits above OP, as a number (R61). -/
def CmdWord.var (w : Byte) : Nat := w.toNat / 32 % 4

/-- OP is in the table of R62 (R66, second line). -/
def CmdWord.opAssigned (w : Byte) : Bool :=
  (1 ≤ CmdWord.op w && CmdWord.op w ≤ 6) || (16 ≤ CmdWord.op w && CmdWord.op w ≤ 26)

/-- Not the reserved variant of CRC (R66, third line). -/
def CmdWord.variantAssigned (w : Byte) : Bool := !(CmdWord.op w == 1 && CmdWord.var w == 3)

/-- No variant on a command other than CRC (R66, fourth line). -/
def CmdWord.variantOnlyOnCrc (w : Byte) : Bool := CmdWord.op w == 1 || CmdWord.var w == 0

/-- A legal command word: none of R66's four conditions holds. -/
def CmdWord.legal (w : Byte) : Bool :=
  CmdWord.reservedClear w && CmdWord.opAssigned w && CmdWord.variantAssigned w && CmdWord.variantOnlyOnCrc w

/-- SEQ_MAX is unbounded or at least 14, the longest frame (R9). -/
def Config.wf (c : Config) : Bool :=
  match c.seqMax with
  | none => true
  | some m => 14 ≤ m

end Sys2Proof
end

