-- ==== Sys2Proof/Safety.lean ====
section
/-! DEFINITION. The terms claims use: a run that reached no refusal (spec 10_state.md R29), the answers of a run, the
builder a state holds, and the invariant of a block. -/

namespace Sys2Proof.Machine

/-- "A claim about a run takes REFUSED = 0 at the end as a premise" (R29). -/
abbrev Safe (s : State) : Prop := s.refusedMark = false

/-- The answers to the next `n` transactions, oldest first; a step that does not answer a next state ends the list. -/
def transcript : Nat → State → List Response
  | 0, _ => []
  | n + 1, s =>
    match step s with
    | .next t => t.resp :: transcript n t
    | .fault _ | .refused _ => []

/-- The builder a state holds: identifier and flag while BUILT = 1, and nothing while BUILT = 0, when UID and APPEND_CRC
"hold no defined value" (R23). -/
def State.builder (s : State) : Option (Uid × Bool) := if s.built then some (s.uid, s.appendCrc) else none

/-- The builder after a transaction, from the builder before it and the transaction alone: a construction replaces it
(R230, R232), a SETUID with exactly 4 bytes replaces its identifier if there is a builder (R150), and nothing else
changes it (R49). -/
def builderAfter (b : Option (Uid × Bool)) : Transaction → Option (Uid × Bool)
  | .construct r =>
    let flag := if r.rstAppendValid then r.rstAppend else true
    if r.rstUidValid then
      match r.rstUid with
      | [u0, u1, u2, u3] => some (⟨u0, u1, u2, u3⟩, flag)
      | _ => none
    else some (⟨0x00, 0x00, 0x00, 0x00⟩, flag)
  | .command c =>
    if c.cmd = 0x06 ∧ c.ops.seqValid = true then
      match c.ops.seq with
      | [u0, u1, u2, u3] => b.map fun p => (⟨u0, u1, u2, u3⟩, p.2)
      | _ => b
    else b

/-- The invariant of a block that has parameters the spec allows. -/
structure BlockInv (s : State) : Prop where
  /-- SEQ_MAX is unbounded or at least 14 (R9). -/
  params : s.cfg.wf = true
  /-- OUT is empty unless STATUS = OK (R60, R200). -/
  outOnlyOk : ∀ st out, s.resp = .command st out → st ≠ .ok → out = []
  /-- A refusal has set the sticky mark (R29, R203). -/
  refusedMarked : ∀ r out, s.resp = .command (.refused r) out → s.refusedMark = true
  /-- RST_STATUS is OK exactly when BUILT = 1 after the construction, and INVALID_IDENTIFIER otherwise (R230). -/
  constructed : ∀ st, s.resp = .construction st →
    (s.built = true ∧ st = .ok) ∨ (s.built = false ∧ st = .error .invalidIdentifier)
  /-- NOT_CONSTRUCTED is answered only while BUILT = 0 (R202). -/
  notConstructed : ∀ out, s.resp = .command (.error .notConstructed) out → s.built = false
  /-- OUT is at most 2 bytes longer than a bounded SEQ_MAX (R9, R185). -/
  outFits : ∀ m st out, s.cfg.seqMax = some m → s.resp = .command st out → out.length ≤ m + 2

end Sys2Proof.Machine
end

