-- ==== Sys2Proof/Certificates/Slice0/Obligations.lean ====
section
/-! DEFINITION. What is claimed of the block. Each statement formalises the rule of spec/ its docstring names. A free value
or a parameter of an instance (OPC, SEQ_MAX) is quantified over with the state; a statement that rests on a choice of the
model says so. Helpers stand first, under `Sys2Proof.Claims`, written from the rules and not from the machine. -/

open Sys2Proof Sys2Proof.Machine

namespace Sys2Proof.Claims

/-- A present SEQ is no longer than SEQ_MAX (R9). -/
def SeqFits (s : State) : Prop := s.ops.seqValid = true → ∀ m, s.cfg.seqMax = some m → s.ops.seq.length ≤ m

/-- SEQ is present and is `d` (R60). -/
def HasSeq (s : State) (d : List Byte) : Prop := s.ops.seqValid = true ∧ s.ops.seq = d

/-- A 16-bit value as two bytes, low byte first (R42). -/
def littleEndian (v : Word16) : List Byte := [v.setWidth 8, (v >>> 8).setWidth 8]

/-- The trailer of a frame: nothing, or the Variant-B checksum of every byte before it (R70). -/
def trailer (flag : Bool) (l : List Byte) : List Byte :=
  if flag then littleEndian (~~~ l.foldl crcStep 0xFFFF) else []

/-- The state after a command that ends with `return out` and writes no state (R14). -/
def answers (s : State) (out : List Byte) : Result := .next { s with resp := .command .ok out }

/-- The state after a command that ends with an error (R14, R204). -/
def fails (s : State) (e : ErrorCode) : Result := .next { s with resp := .command (.error e) [] }

/-- The state after a command that ends with a refusal (R14, R29, R203). -/
def refuses (s : State) (r : RefuseReason) : Result :=
  .next { s with resp := .command (.refused r) [], refusedMark := true }

/-- The frame operation of a frame command (R62, R69). -/
def frameOpOf : Instr → Option FrameOp
  | .req => some .request
  | .wup => some .wakeUp
  | .rid => some .readId
  | .rall => some .readAll
  | .read => some .read
  | .writee => some .writeErase
  | .writene => some .writeNoErase
  | .rseg => some .readSegment
  | .read8 => some .read8
  | .writee8 => some .writeErase8
  | .writene8 => some .writeNoErase8
  | .crc | .crcA | .crcB | .append | .addrb | .addrs | .addr8 | .setuid => none

/-- L of R71. -/
def frameLength : FrameOp → Nat
  | .request | .wakeUp => 1
  | .readId | .readAll | .read | .writeErase | .writeNoErase => 7
  | .readSegment | .read8 | .writeErase8 | .writeNoErase8 => 14

/-- Where the identifier span starts, for the frames that have one (R69). -/
def spanStart : FrameOp → Option Nat
  | .request | .wakeUp | .readId => none
  | .readAll | .read | .writeErase | .writeNoErase => some 3
  | .readSegment | .read8 | .writeErase8 | .writeNoErase8 => some 10

/-- The commands that raise NOT_CONSTRUCTED (R202). -/
def builderCommands : List Instr :=
  [.append, .setuid, .req, .wup, .rid, .rall, .read, .writee, .writene, .rseg, .read8, .writee8, .writene8]

/-- The commands that read SEQ (R64). -/
def seqCommands : List Instr := [.crc, .crcA, .crcB, .append, .setuid, .writee8, .writene8]

/-- The commands that read OPA (R64). -/
def opaCommands : List Instr := [.addrb, .read, .writee, .writene, .rseg, .read8, .writee8, .writene8]

/-- The commands that read OPB (R64). -/
def opbCommands : List Instr := [.writee, .writene]

/-- The commands that read IDX (R64). -/
def idxCommands : List Instr := [.addrb, .addrs, .addr8]

/-- Operand signals that agree with the state's on every port the command names (R64), SEQ counting only while
SEQ_VALID = 1 (R60). -/
def AgreeOnUsed (i : Instr) (o o' : Operands) : Prop :=
  (i ∈ opaCommands → o.opa = o'.opa) ∧ (i ∈ opbCommands → o.opb = o'.opb) ∧ (i ∈ idxCommands → o.idx = o'.idx) ∧
  (i ∈ seqCommands → o.seqValid = o'.seqValid ∧ (o.seqValid = true → o.seq = o'.seq))

/-- The STATUS a command can end with (R207), CRC with the variant absent apart (R63: it "ends with INVALID_INPUT"). -/
def possible : Instr → List Status
  | .crc => [.error .invalidInput, .refused .seqTooLong]
  | .crcA | .crcB => [.ok, .error .invalidInput, .refused .seqTooLong]
  | .append => [.ok, .error .invalidInput, .error .notConstructed, .refused .seqAbsent, .refused .seqTooLong]
  | .addrb => [.ok, .refused .digitDomain, .refused .indexDomain]
  | .addrs => [.ok, .error .invalidSegmentIndex]
  | .addr8 => [.ok, .error .invalidBlockIndex]
  | .setuid => [.ok, .error .invalidIdentifier, .error .notConstructed, .refused .seqTooLong]
  | .req | .wup | .rid | .rall | .read | .writee | .writene | .rseg | .read8 => [.ok, .error .notConstructed]
  | .writee8 | .writene8 => [.ok, .error .invalidPayload, .error .notConstructed, .refused .seqTooLong]

/-- Two states that agree on all a host can ever observe of what comes: the waiting transactions, the parameters, BUILT,
and UID and APPEND_CRC while BUILT = 1 (R23). -/
def SameBuilder (s s' : State) : Prop :=
  s.port = s'.port ∧ s.cfg = s'.cfg ∧ s.built = s'.built ∧
  (s.built = true → s.uid = s'.uid ∧ s.appendCrc = s'.appendCrc)

/-- The identifier and the flag as they were, and BUILT. -/
def SameArch (s t : State) : Prop := t.built = s.built ∧ t.uid = s.uid ∧ t.appendCrc = s.appendCrc

/-- A line with a present sequence (R73), its braces written by their codes. -/
def braced (before inside after : String) : List Char :=
  before.toList ++ [Char.ofNat 123] ++ inside.toList ++ [Char.ofNat 125] ++ after.toList

/-- Operand signals with SEQ absent. -/
def plain (opa opb : Byte) (idx : Index) : Operands := ⟨opa, opb, idx, false, []⟩

/-- Operand signals with OPA and a present SEQ. -/
def withData (opa : Byte) (seq : List Byte) : Operands := ⟨opa, 0x00, 0, true, seq⟩

/-- The line assembles to this command. -/
def AssemblesTo (line : List Char) (cmd : Byte) (ops : Operands) : Prop :=
  assembleLine line = some (some (.command ⟨cmd, ops⟩))

end Sys2Proof.Claims

open Sys2Proof.Claims

/-! ### Checksum engine -/

/-- R101: the per-bit equations give the step on every input. -/
def Obligations.CrcStepIsPerBitForm : Prop := ∀ (acc : Word16) (b : Byte), crcStep acc b = crcStepBits acc b

/-- R102: the step is eight shifts of the bit-serial form over acc ^ zext_16(b), and 0x8408 is the bit-reversed form of
the generator polynomial x^16 + x^12 + x^5 + 1 (its bit 15 - e is the coefficient of x^e). -/
def Obligations.CrcStepIsBitSerialForm : Prop :=
  (∀ (acc : Word16) (b : Byte), crcStep acc b = serialShifts 8 (acc ^^^ b.setWidth 16)) ∧
  (∀ t : Word16, serialShift t = if t.getLsbD 0 then (t >>> 1) ^^^ 0x8408 else t >>> 1) ∧
  (∀ e < 16, (0x8408 : Word16).getLsbD (15 - e) = (e == 12 || e == 5 || e == 0))

/-- R101's derivation: the step is linear over XOR, and crcStep(0, 0) = 0. -/
def Obligations.CrcStepIsLinear : Prop :=
  crcStep 0 0 = 0 ∧
  ∀ (acc acc' : Word16) (b b' : Byte), crcStep (acc ^^^ acc') (b ^^^ b') = crcStep acc b ^^^ crcStep acc' b'

/-- R103: the accumulator folds the step over the data in sequence order, from the variant's seed; Variant B is
complemented; the result is the two bytes, low byte first. -/
def Obligations.ChecksumFoldsStepInOrder : Prop :=
  (∀ seed d, crcAcc seed d = d.foldl crcStep seed) ∧
  (∀ d, crcCompute .a d = littleEndian (d.foldl crcStep 0x6363)) ∧
  (∀ d, crcCompute .b d = littleEndian (~~~ d.foldl crcStep 0xFFFF))

/-- R105: the empty sequence is a valid input. -/
def Obligations.EmptySequenceIsValid : Prop :=
  (∀ seed, crcAcc seed [] = seed) ∧ crcCompute .a [] = [0x63, 0x63] ∧ crcCompute .b [] = [0x00, 0x00] ∧
  (∀ s, HasSeq s [] → exec .crcA s = answers s [0x63, 0x63] ∧ exec .crcB s = answers s [0x00, 0x00]) ∧
  (∀ s, s.ops.seqValid = false → exec .crcA s = fails s .invalidInput ∧ exec .crcB s = fails s .invalidInput)

/-- R107: CRC.A depends only on the data; Variant B is the complement of the accumulator run from 0xFFFF; every checksum
has 2 bytes. -/
def Obligations.ChecksumStatedProperties : Prop :=
  (∀ s s' d, HasSeq s d → HasSeq s' d → SeqFits s → SeqFits s' →
    ∃ out, exec .crcA s = answers s out ∧ exec .crcA s' = answers s' out) ∧
  (∀ d, crcCompute .b d = littleEndian (~~~ crcAcc 0xFFFF d)) ∧
  (∀ v d, (crcCompute v d).length = 2)

/-- R106: the CRC command of each variant, on every operand; BUILT plays no part. -/
def Obligations.CrcCommandOutcomes : Prop :=
  decode 0x01 = .command .crc ∧ decode 0x21 = .command .crcA ∧ decode 0x41 = .command .crcB ∧
  CmdWord.legal 0x61 = false ∧
  (∀ s, ¬ SeqFits s → exec .crc s = refuses s .seqTooLong ∧ exec .crcA s = refuses s .seqTooLong ∧
    exec .crcB s = refuses s .seqTooLong) ∧
  (∀ s, SeqFits s → exec .crc s = fails s .invalidInput) ∧
  (∀ s, s.ops.seqValid = false → exec .crcA s = fails s .invalidInput ∧ exec .crcB s = fails s .invalidInput) ∧
  (∀ s d, HasSeq s d → SeqFits s →
    exec .crcA s = answers s (littleEndian (d.foldl crcStep 0x6363)) ∧
    exec .crcB s = answers s (littleEndian (~~~ d.foldl crcStep 0xFFFF)))

/-- 95_test_vectors.md L2-2, residue property ("not proved here"): a sequence followed by its own checksum leaves a
constant in the accumulator, for every sequence. -/
def Obligations.ChecksumResidue : Prop :=
  ∀ d : List Byte,
    crcAcc 0x6363 (d ++ crcCompute .a d) = 0x0000 ∧ crcAcc 0xFFFF (d ++ crcCompute .b d) = 0xF0B8

/-! ### Frames -/

/-- R134, R135: REQ and WUP. -/
def Obligations.ShortFrameCommands : Prop :=
  decode 0x10 = .command .req ∧ decode 0x11 = .command .wup ∧
  (∀ s, s.built = false → exec .req s = fails s .notConstructed ∧ exec .wup s = fails s .notConstructed) ∧
  (∀ s, s.built = true →
    exec .req s = answers s ([opc s.cfg .request] ++ trailer s.appendCrc [opc s.cfg .request]) ∧
    exec .wup s = answers s ([opc s.cfg .wakeUp] ++ trailer s.appendCrc [opc s.cfg .wakeUp]))

/-- R136: RID. Its output is the same for every UID, every OPC parameter and every operand. -/
def Obligations.ReadIdFrameCommand : Prop :=
  decode 0x12 = .command .rid ∧
  (∀ s, s.built = false → exec .rid s = fails s .notConstructed) ∧
  (∀ s, s.built = true → s.appendCrc = false →
    exec .rid s = answers s [0x78, 0x00, 0x00, 0x00, 0x00, 0x00, 0x00]) ∧
  (∀ s, s.built = true → s.appendCrc = true →
    exec .rid s = answers s [0x78, 0x00, 0x00, 0x00, 0x00, 0x00, 0x00, 0xD0, 0x43])

/-- R137: RALL. -/
def Obligations.ReadAllFrameCommand : Prop :=
  decode 0x13 = .command .rall ∧
  (∀ s, s.built = false → exec .rall s = fails s .notConstructed) ∧
  (∀ s f, s.built = true → f = [opc s.cfg .readAll, 0x00, 0x00, s.uid.b0, s.uid.b1, s.uid.b2, s.uid.b3] →
    exec .rall s = answers s (f ++ trailer s.appendCrc f))

/-- R138: READ. OPA is written as it is. -/
def Obligations.ReadFrameCommand : Prop :=
  decode 0x14 = .command .read ∧
  (∀ s, s.built = false → exec .read s = fails s .notConstructed) ∧
  (∀ s f, s.built = true → f = [opc s.cfg .read, s.ops.opa, 0x00, s.uid.b0, s.uid.b1, s.uid.b2, s.uid.b3] →
    exec .read s = answers s (f ++ trailer s.appendCrc f))

/-- R139, R140: WRITEE and WRITENE. OPA and OPB are written as they are. -/
def Obligations.OneByteWriteFrameCommands : Prop :=
  decode 0x15 = .command .writee ∧ decode 0x16 = .command .writene ∧
  (∀ s, s.built = false → exec .writee s = fails s .notConstructed ∧ exec .writene s = fails s .notConstructed) ∧
  (∀ s f, s.built = true →
    f = [opc s.cfg .writeErase, s.ops.opa, s.ops.opb, s.uid.b0, s.uid.b1, s.uid.b2, s.uid.b3] →
    exec .writee s = answers s (f ++ trailer s.appendCrc f)) ∧
  (∀ s f, s.built = true →
    f = [opc s.cfg .writeNoErase, s.ops.opa, s.ops.opb, s.uid.b0, s.uid.b1, s.uid.b2, s.uid.b3] →
    exec .writene s = answers s (f ++ trailer s.appendCrc f))

/-- R141, R142: RSEG and READ8. OPA is written as it is; offsets 2 to 9 are zero. -/
def Obligations.EightByteReadFrameCommands : Prop :=
  decode 0x17 = .command .rseg ∧ decode 0x18 = .command .read8 ∧
  (∀ s, s.built = false → exec .rseg s = fails s .notConstructed ∧ exec .read8 s = fails s .notConstructed) ∧
  (∀ s f, s.built = true → f = [opc s.cfg .readSegment, s.ops.opa] ++ List.replicate 8 0x00 ++
      [s.uid.b0, s.uid.b1, s.uid.b2, s.uid.b3] → exec .rseg s = answers s (f ++ trailer s.appendCrc f)) ∧
  (∀ s f, s.built = true → f = [opc s.cfg .read8, s.ops.opa] ++ List.replicate 8 0x00 ++
      [s.uid.b0, s.uid.b1, s.uid.b2, s.uid.b3] → exec .read8 s = answers s (f ++ trailer s.appendCrc f))

/-- R143, R144, R145: WRITEE8 and WRITENE8 on every operand. -/
def Obligations.EightByteWriteFrameCommands : Prop :=
  decode 0x19 = .command .writee8 ∧ decode 0x1A = .command .writene8 ∧
  (∀ s, s.built = false → exec .writee8 s = fails s .notConstructed ∧ exec .writene8 s = fails s .notConstructed) ∧
  (∀ s, s.built = true → ¬ SeqFits s →
    exec .writee8 s = refuses s .seqTooLong ∧ exec .writene8 s = refuses s .seqTooLong) ∧
  (∀ s, s.built = true → SeqFits s → s.ops.seqValid = false ∨ s.ops.seq.length ≠ 8 →
    exec .writee8 s = fails s .invalidPayload ∧ exec .writene8 s = fails s .invalidPayload) ∧
  (∀ s p f, s.built = true → SeqFits s → HasSeq s p → p.length = 8 →
    f = [opc s.cfg .writeErase8, s.ops.opa] ++ p ++ [s.uid.b0, s.uid.b1, s.uid.b2, s.uid.b3] →
    exec .writee8 s = answers s (f ++ trailer s.appendCrc f)) ∧
  (∀ s p f, s.built = true → SeqFits s → HasSeq s p → p.length = 8 →
    f = [opc s.cfg .writeNoErase8, s.ops.opa] ++ p ++ [s.uid.b0, s.uid.b1, s.uid.b2, s.uid.b3] →
    exec .writene8 s = answers s (f ++ trailer s.appendCrc f)) ∧
  (∀ s, s.cfg.wf = true → exec .writee8 s = refuses s .seqTooLong → s.ops.seq.length ≠ 8)

/-- R71: the length of every frame. -/
def Obligations.FrameLengthsFollowTable : Prop :=
  ∀ i op s t out, frameOpOf i = some op → exec i s = .next t → t.resp = .command .ok out →
    out.length = frameLength op + 2 * (if s.appendCrc then 1 else 0)

/-- R44, R45: identifier and payload stand in the frame in order, unreversed. -/
def Obligations.IdentifierAndPayloadInOrder : Prop :=
  (∀ i op p s t out, frameOpOf i = some op → spanStart op = some p → exec i s = .next t → t.resp = .command .ok out →
    (out.drop p).take 4 = [s.uid.b0, s.uid.b1, s.uid.b2, s.uid.b3]) ∧
  (∀ i s t out k, i = .writee8 ∨ i = .writene8 → exec i s = .next t → t.resp = .command .ok out → k < 8 →
    out[2 + k]? = s.ops.seq[k]?)

/-- R43, R70: the trailer is the Variant-B checksum of offsets 0 to L - 1, and there is none when APPEND_CRC = 0. -/
def Obligations.TrailerCoversWholePreChecksumFrame : Prop :=
  ∀ i op s t out, frameOpOf i = some op → exec i s = .next t → t.resp = .command .ok out →
    out.drop (frameLength op) = trailer s.appendCrc (out.take (frameLength op))

/-- 95_test_vectors.md L2-2: CRC.B over a frame with its trailer always outputs [0x47, 0x0F], in any later state. -/
def Obligations.FrameWithTrailerPassesResidueCheck : Prop :=
  ∀ i op s t out, frameOpOf i = some op → s.appendCrc = true → exec i s = .next t → t.resp = .command .ok out →
    ∀ s', HasSeq s' out → SeqFits s' → exec .crcB s' = answers s' [0x47, 0x0F]

/-- R185: APPEND on every operand. -/
def Obligations.AppendCommandOutcomes : Prop :=
  decode 0x02 = .command .append ∧
  (∀ s, s.built = false → exec .append s = fails s .notConstructed) ∧
  (∀ s, s.built = true → ¬ SeqFits s → exec .append s = refuses s .seqTooLong) ∧
  (∀ s, s.built = true → s.ops.seqValid = false → s.appendCrc = true → exec .append s = fails s .invalidInput) ∧
  (∀ s, s.built = true → s.ops.seqValid = false → s.appendCrc = false → exec .append s = refuses s .seqAbsent) ∧
  (∀ s l, s.built = true → SeqFits s → HasSeq s l → exec .append s = answers s (l ++ trailer s.appendCrc l))

/-- R185's corner case: applying APPEND to a sequence that carries its trailer appends a second one, which is always
[0x47, 0x0F] (95_test_vectors.md L2-2, L2-7). -/
def Obligations.AppendTwiceAddsConstantTrailer : Prop :=
  ∀ s l, s.built = true → s.appendCrc = true → SeqFits s → HasSeq s (l ++ trailer true l) →
    exec .append s = answers s (l ++ trailer true l ++ [0x47, 0x0F])

/-! ### Address helpers -/

/-- R180: the digit table. -/
def Obligations.DigitTable : Prop :=
  (∀ c : Byte, 0x30 ≤ c.toNat → c.toNat ≤ 0x39 → digitValue c = some (c.toNat - 0x30)) ∧
  (∀ c : Byte, 0x41 ≤ c.toNat → c.toNat ≤ 0x46 → digitValue c = some (c.toNat - 0x41 + 10)) ∧
  (∀ c : Byte, c.toNat < 0x30 ∨ (0x39 < c.toNat ∧ c.toNat < 0x41) ∨ 0x46 < c.toNat → digitValue c = none)

/-- R181: ADDRB on every operand; BUILT plays no part. The result is d * 8 + IDX. -/
def Obligations.AddrbCommandOutcomes : Prop :=
  decode 0x03 = .command .addrb ∧
  (∀ s, digitValue s.ops.opa = none → exec .addrb s = refuses s .digitDomain) ∧
  (∀ s d, digitValue s.ops.opa = some d → s.ops.idx.toInt < 0 ∨ 7 < s.ops.idx.toInt →
    exec .addrb s = refuses s .indexDomain) ∧
  (∀ s (d n : Nat), digitValue s.ops.opa = some d → s.ops.idx.toInt = (n : Int) → n ≤ 7 →
    d ≤ 15 ∧ exec .addrb s = answers s [BitVec.ofNat 8 (d * 8 + n)])

/-- R182: ADDRS on every operand. -/
def Obligations.AddrsCommandOutcomes : Prop :=
  decode 0x04 = .command .addrs ∧
  (∀ s, s.ops.idx.toInt < 0 ∨ 3 < s.ops.idx.toInt → exec .addrs s = fails s .invalidSegmentIndex) ∧
  (∀ s, s.ops.idx.toInt = 0 → exec .addrs s = answers s [0x00]) ∧
  (∀ s, s.ops.idx.toInt = 1 → exec .addrs s = answers s [0x20]) ∧
  (∀ s, s.ops.idx.toInt = 2 → exec .addrs s = answers s [0x40]) ∧
  (∀ s, s.ops.idx.toInt = 3 → exec .addrs s = answers s [0x60])

/-- R183: ADDR8 on every operand. -/
def Obligations.Addr8CommandOutcomes : Prop :=
  decode 0x05 = .command .addr8 ∧
  (∀ s, s.ops.idx.toInt < 0 ∨ 0x3F < s.ops.idx.toInt → exec .addr8 s = fails s .invalidBlockIndex) ∧
  (∀ s, 0 ≤ s.ops.idx.toInt → s.ops.idx.toInt ≤ 0x3F → exec .addr8 s = answers s [s.ops.idx.setWidth 8])

/-- R72: the formats of the address bytes, and OPA stands at offset 1 of the frames that take an address, as given. -/
def Obligations.AddressByteFormats : Prop :=
  (∀ s t d a, digitValue s.ops.opa = some d → exec .addrb s = .next t → t.resp = .command .ok [a] →
    a.getLsbD 7 = false ∧ (a.extractLsb' 3 4).toNat = d ∧ a.extractLsb' 0 3 = s.ops.idx.extractLsb' 0 3 ∧
    a.toNat ≤ 0x7F) ∧
  (∀ s t a, exec .addrs s = .next t → t.resp = .command .ok [a] →
    a.extractLsb' 5 2 = s.ops.idx.extractLsb' 0 2 ∧ a.getLsbD 7 = false ∧ a.extractLsb' 0 5 = 0) ∧
  (∀ s t a, exec .addr8 s = .next t → t.resp = .command .ok [a] →
    a.extractLsb' 0 6 = s.ops.idx.extractLsb' 0 6 ∧ a.extractLsb' 6 2 = 0) ∧
  (∀ i s t out, i ∈ [Instr.read, .writee, .writene, .rseg, .read8, .writee8, .writene8] → exec i s = .next t →
    t.resp = .command .ok out → out[1]? = some s.ops.opa)

/-- R181's corner case ("the concatenation d and IDX[2:0]"): the byte address determines the digit character and the
index. -/
def Obligations.ByteAddressDeterminesItsOperands : Prop :=
  ∀ s s' t t' a, exec .addrb s = .next t → t.resp = .command .ok [a] → exec .addrb s' = .next t' →
    t'.resp = .command .ok [a] → s.ops.opa = s'.ops.opa ∧ s.ops.idx = s'.ops.idx

/-! ### Identifier setter -/

/-- R150: SETUID on every operand. -/
def Obligations.SetuidCommandOutcomes : Prop :=
  decode 0x06 = .command .setuid ∧
  (∀ s, s.built = false → exec .setuid s = fails s .notConstructed) ∧
  (∀ s, s.built = true → ¬ SeqFits s → exec .setuid s = refuses s .seqTooLong) ∧
  (∀ s, s.built = true → SeqFits s → s.ops.seqValid = false ∨ s.ops.seq.length ≠ 4 →
    exec .setuid s = fails s .invalidIdentifier) ∧
  (∀ s u0 u1 u2 u3, s.built = true → SeqFits s → HasSeq s [u0, u1, u2, u3] →
    exec .setuid s = .next { s with uid := ⟨u0, u1, u2, u3⟩, resp := .command .ok [] })

/-! ### Construction, power-up and reset -/

/-- R230: a construction, accepted by a step, in each of its cases. Nothing else changes but the port and, after a
failure, the unspecified UID and APPEND_CRC and their counter (R31). -/
def Obligations.ConstructionOutcomes : Prop :=
  (∀ s r rest, s.port = .construct r :: rest → r.rstUidValid = false →
    step s = .next { s with
      built := true, uid := ⟨0x00, 0x00, 0x00, 0x00⟩,
      appendCrc := (if r.rstAppendValid = false then true else r.rstAppend),
      port := rest, resp := .construction .ok }) ∧
  (∀ s r rest u0 u1 u2 u3, s.port = .construct r :: rest → r.rstUidValid = true → r.rstUid = [u0, u1, u2, u3] →
    step s = .next { s with
      built := true, uid := ⟨u0, u1, u2, u3⟩,
      appendCrc := (if r.rstAppendValid = false then true else r.rstAppend),
      port := rest, resp := .construction .ok }) ∧
  (∀ s r rest, s.port = .construct r :: rest → r.rstUidValid = true → r.rstUid.length ≠ 4 →
    ∃ u f n, step s = .next { s with
      built := false, uid := u, appendCrc := f, freeCount := n, port := rest,
      resp := .construction (.error .invalidIdentifier) })

/-- R232: a construction replaces the builder whatever it was, and nothing else changes APPEND_CRC. -/
def Obligations.ConstructionReplacesBuilder : Prop :=
  (∀ s s' r rest rest' t t', s.port = .construct r :: rest → s'.port = .construct r :: rest' → step s = .next t →
    step s' = .next t' → t.builder = t'.builder ∧ t.built = t'.built) ∧
  (∀ s t, step s = .next t → t.appendCrc ≠ s.appendCrc → ∃ r rest, s.port = .construct r :: rest)

/-- R31, column "construction, identifier omitted", with the flag omitted: what `State.reset` holds. That reset stands
after that construction is the model's choice (notes/assumptions/5.md). -/
def Obligations.ResetHoldsConstructionDefaults : Prop :=
  State.reset.built = true ∧ State.reset.uid = ⟨0x00, 0x00, 0x00, 0x00⟩ ∧ State.reset.appendCrc = true ∧
  State.reset.refusedMark = false ∧
  step ((State.powerUp Config.default).setPort [.construct ⟨false, [], false, false⟩]) = .next State.reset

/-- R231: at power-up the stateless commands work and every builder command ends with NOT_CONSTRUCTED. -/
def Obligations.PowerUpCommands : Prop :=
  ∀ c o s, s = (State.powerUp c).setOps o → SeqFits s →
    s.built = false ∧
    (∀ i ∈ builderCommands, exec i s = fails s .notConstructed) ∧
    (∀ d, HasSeq s d → exec .crcA s = answers s (crcCompute .a d) ∧ exec .crcB s = answers s (crcCompute .b d)) ∧
    (∀ d n : Nat, digitValue o.opa = some d → o.idx.toInt = (n : Int) → n ≤ 7 →
      exec .addrb s = answers s [BitVec.ofNat 8 (d * 8 + n)]) ∧
    (∀ n : Nat, o.idx.toInt = (n : Int) → n ≤ 3 → exec .addrs s = answers s [BitVec.ofNat 8 (n * 32)]) ∧
    (∀ n : Nat, o.idx.toInt = (n : Int) → n ≤ 0x3F → exec .addr8 s = answers s [BitVec.ofNat 8 n])

/-! ### Outcomes and failures -/

/-- R200 to R203: the STATUS codes. -/
def Obligations.StatusCodes : Prop :=
  statusCode .ok = 0x00 ∧ statusCode (.error .invalidInput) = 0x01 ∧ statusCode (.error .invalidIdentifier) = 0x02 ∧
  statusCode (.error .invalidPayload) = 0x03 ∧ statusCode (.error .invalidSegmentIndex) = 0x04 ∧
  statusCode (.error .invalidBlockIndex) = 0x05 ∧ statusCode (.error .illegalCommand) = 0x10 ∧
  statusCode (.error .notConstructed) = 0x11 ∧ (∀ r, statusCode (.refused r) = 0xFF) ∧
  (∀ e e', statusCode (.error e) = statusCode (.error e') → e = e')

/-- R202: ILLEGAL_COMMAND and NOT_CONSTRUCTED, and the commands that never raise the latter. -/
def Obligations.SpecErrors : Prop :=
  (∀ s c rest, s.port = .command c :: rest → CmdWord.legal c.cmd = false →
    step s = fails { s with port := rest, ops := c.ops } .illegalCommand) ∧
  (∀ i ∈ builderCommands, ∀ s, s.built = false → exec i s = fails s .notConstructed) ∧
  (∀ i ∈ [Instr.crc, .crcA, .crcB, .addrb, .addrs, .addr8], ∀ s t out, exec i s = .next t →
    t.resp ≠ .command (.error .notConstructed) out) ∧
  statusCode (.error .illegalCommand) = 0x10 ∧ statusCode (.error .notConstructed) = 0x11

/-- R204: a command that fails outputs no byte, writes no architectural state, leaves the port to the next command, and
no later transaction is answered differently because of it. Refusals, and runs through them, are covered as R203 and R204
say (notes/assumptions/10.md). -/
def Obligations.FailureWritesNothing : Prop :=
  ∀ s t c rest st out, s.port = .command c :: rest → step s = .next t → t.resp = .command st out → st ≠ .ok →
    out = [] ∧ SameArch s t ∧ t.port = rest ∧
    (t.refusedMark = true ↔ s.refusedMark = true ∨ ∃ r, st = .refused r) ∧
    ∀ n ≤ rest.length, transcript n t = transcript n { s with port := rest }

/-- R206: the order of checks. -/
def Obligations.OrderOfChecks : Prop :=
  (∀ s c rest, s.port = .command c :: rest → CmdWord.legal c.cmd = false →
    step s = fails { s with port := rest, ops := c.ops } .illegalCommand) ∧
  (∀ i ∈ builderCommands, ∀ s, s.built = false → exec i s = fails s .notConstructed) ∧
  (∀ i ∈ seqCommands, ∀ s, ¬ SeqFits s → i ∈ builderCommands → s.built = true → exec i s = refuses s .seqTooLong) ∧
  (∀ i ∈ seqCommands, ∀ s, ¬ SeqFits s → i ∉ builderCommands → exec i s = refuses s .seqTooLong) ∧
  (∀ s, digitValue s.ops.opa = none → exec .addrb s = refuses s .digitDomain) ∧
  (∀ s d, digitValue s.ops.opa = some d → s.ops.idx.toInt < 0 ∨ 7 < s.ops.idx.toInt →
    exec .addrb s = refuses s .indexDomain) ∧
  (∀ s, s.built = true → s.ops.seqValid = false →
    exec .append s = if s.appendCrc then fails s .invalidInput else refuses s .seqAbsent) ∧
  (∀ s, SeqFits s → exec .crc s = fails s .invalidInput)

/-- R207 and R63: a command ends with a STATUS exactly when the table allows it. -/
def Obligations.OutcomesPerCommand : Prop :=
  ∀ i st, st ∈ possible i ↔ ∃ s t out, s.cfg.wf = true ∧ exec i s = .next t ∧ t.resp = .command st out

/-- R29: the mark is set by a refusal, cleared by nothing, and 0 at the start of a run. -/
def Obligations.RefusedMarkIsSticky : Prop :=
  State.reset.refusedMark = false ∧ (∀ c, (State.powerUp c).refusedMark = false) ∧
  (∀ s t, step s = .next t → s.port ≠ [] →
    (t.refusedMark = true ↔ s.refusedMark = true ∨ ∃ r, t.resp = .command (.refused r) [])) ∧
  (∀ s t, step s = .next t → s.port = [] → t.refusedMark = s.refusedMark)

/-! ### State and frames of every command -/

/-- R49: only construction and SETUID write state; repeating a command in the state it leaves gives the same answer, and
SETUID twice leaves the state it leaves once. -/
def Obligations.OnlySetuidAndConstructionWrite : Prop :=
  (∀ i s t, i ≠ .setuid → exec i s = .next t →
    t = { s with resp := t.resp, refusedMark := t.refusedMark }) ∧
  (∀ s t, exec .setuid s = .next t → t = { s with uid := t.uid, resp := t.resp, refusedMark := t.refusedMark }) ∧
  (∀ i s t, exec i s = .next t → exec i t = .next t)

/-- R64: the value of a port a command ignores has no effect on any result or state. -/
def Obligations.IgnoredPortsHaveNoEffect : Prop :=
  ∀ i s t o, AgreeOnUsed i s.ops o → exec i s = .next t → exec i { s with ops := o } = .next { t with ops := o }

/-- R8, R9: no step changes the parameters of an instance. -/
def Obligations.ParametersNeverChange : Prop := ∀ s t, step s = .next t → t.cfg = s.cfg

/-! ### Command words and the step -/

/-- R66: the legal words are exactly those the decoder reads a command from, and there are 19. -/
def Obligations.IllegalWordsAreThoseListed : Prop :=
  (∀ w : Byte, CmdWord.legal w = true ↔ ∃ i, decode w = .command i) ∧
  ((List.range 256).filter fun n => CmdWord.legal (BitVec.ofNat 8 n)).length = 19 ∧
  (∀ s c rest, s.port = .command c :: rest → CmdWord.legal c.cmd = false →
    step s = fails { s with port := rest, ops := c.ops } .illegalCommand)

/-- R61 to R63: decoding a command's word gives the command, and each command has one word. -/
def Obligations.DecodeEncodeRoundTrip : Prop :=
  (∀ i, decode (encode i) = .command i) ∧ (∀ w i, decode w = .command i → encode i = w)

/-- R62, R63: a few command words, written out bit by bit (RSV, VAR, OP). R67 answers ILLEGAL alone, so the reason the
decoder names for the reserved variant (notes/assumptions/15.md) is left open. -/
def Obligations.CommandWordsDecode : Prop :=
  decode 0b00000001 = .command .crc ∧ decode 0b00100001 = .command .crcA ∧ decode 0b01000001 = .command .crcB ∧
  decode 0b00000010 = .command .append ∧ decode 0b00000011 = .command .addrb ∧ decode 0b00000110 = .command .setuid ∧
  decode 0b00010010 = .command .rid ∧ decode 0b00011010 = .command .writene8 ∧
  ∃ why, decode 0b01100001 = .illegal why

/-- R3, R48, R67: a step accepts the oldest transaction of the port; a command runs with its own operand signals, and an
empty port leaves the block as it is (R233). -/
def Obligations.StepRunsDecodedCommand : Prop :=
  (∀ s c rest i, s.port = .command c :: rest → decode c.cmd = .command i →
    step s = exec i { s with port := rest, ops := c.ops }) ∧
  (∀ s, s.port = [] → step s = .next s)

/-- R243: every accepted transaction completes: from every state the block works its port off, without a stop. A
refused command completes with the answer notes/assumptions/10.md gives it. -/
def Obligations.EveryTransactionCompletes : Prop :=
  (∀ s, ∃ t, step s = .next t ∧ t.port = s.port.tail) ∧
  (∀ s : State, ∃ t : State, Host.Core.run Sys2Proof.core s.port.length s = .next t ∧ t.port = [])

/-! ### The whole machine -/

/-- R9, R29, R60, R185, R202, R230: the invariant is kept by every step, whatever is presented. -/
def Obligations.StepKeepsInvariant : Prop := ∀ s t, BlockInv s → step s = .next t → BlockInv t

/-- The invariant holds after reset and at power-up, with any parameters the spec allows. -/
def Obligations.ResetMeetsInvariant : Prop :=
  BlockInv State.reset ∧ ∀ c : Config, c.wf = true → BlockInv (State.powerUp c)

/-- R23: BUILT is 0 at power-up and follows the constructions; while BUILT = 0 nothing ever reads UID or APPEND_CRC: two
blocks that differ only there (and in their own bookkeeping) answer every sequence of transactions alike. No premise
REFUSED = 0 is taken (R29): runs through a refusal are covered too, with the answer notes/assumptions/10.md gives it. -/
def Obligations.UnspecifiedBuilderNeverObserved : Prop :=
  (∀ c, (State.powerUp c).built = false) ∧
  (∀ s t r rest, s.port = .construct r :: rest → step s = .next t →
    (t.built = true ↔ t.resp = .construction .ok)) ∧
  (∀ s s' n, SameBuilder s s' → n ≤ s.port.length → transcript n s = transcript n s')

/-- R48, R52, R150, R230, R232: after any sequence of transactions the block holds the builder that sequence alone
determines; in particular no identifier is ever torn. No premise REFUSED = 0 is taken (R29): a refused command counts as
one that changes nothing (R204, notes/assumptions/10.md). -/
def Obligations.BuilderFollowsTransactions : Prop :=
  ∀ s : State, s.cfg.wf = true → ∃ t : State, Host.Core.run Sys2Proof.core s.port.length s = .next t ∧
    t.builder = s.port.foldl builderAfter s.builder

/-- R241: an identifier-carrying frame at the end of any sequence of transactions carries the identifier of the last
successful SETUID or construction before it. No premise REFUSED = 0 is taken (R29): a refused command before the frame
counts as one that changes nothing (R204, notes/assumptions/10.md). -/
def Obligations.FrameCarriesLastIdentifier : Prop :=
  ∀ (s : State) txs c i op p, s.cfg.wf = true → s.port = txs ++ [.command c] → decode c.cmd = .command i →
    frameOpOf i = some op → spanStart op = some p →
    ∃ t : State, Host.Core.run Sys2Proof.core (txs.length + 1) s = .next t ∧
      (∀ out, t.resp = .command .ok out → ∃ u f, txs.foldl builderAfter s.builder = some (u, f) ∧
        (out.drop p).take 4 = [u.b0, u.b1, u.b2, u.b3]) ∧
      (txs.foldl builderAfter s.builder = none → t.resp = .command (.error .notConstructed) [])

/-- R30: a step of one instance, or a transaction presented to it, leaves every other instance as it was, and what it
leaves at that instance depends on that instance alone: it is the same among any other instances. -/
def Obligations.InstancesShareNothing : Prop :=
  (∀ k sys sys', stepInstance k sys = .next sys' → ∀ j, j ≠ k → sys'[j]? = sys[j]?) ∧
  (∀ k tx (sys : System), ∀ j, j ≠ k → (presentTo k tx sys)[j]? = sys[j]?) ∧
  (∀ k (sys sys₂ a : System), sys[k]? = sys₂[k]? → stepInstance k sys = .next a →
    ∃ b, stepInstance k sys₂ = .next b ∧ a[k]? = b[k]?) ∧
  (∀ k tx (sys sys₂ : System), sys[k]? = sys₂[k]? → (presentTo k tx sys)[k]? = (presentTo k tx sys₂)[k]?)

/-- R52: steps of different instances may be taken in either order, with the same result. -/
def Obligations.InstancesCommute : Prop :=
  ∀ j k sys a b, j ≠ k → stepInstance j sys = .next a → stepInstance k a = .next b →
    ∃ c, stepInstance k sys = .next c ∧ stepInstance j c = .next b

/-- R73: every command's assembly carries the command's own word; a line of each of R73's nineteen spellings, written out
with its CMD and its operand ports, the absent sequence, `RESET` and `.cmd`; and the five lines of program 1 of
95_test_vectors.md. Ports a line does not name are 0 (notes/assumptions/16.md). -/
def Obligations.AssemblerSpellings : Prop :=
  (∀ i args c, asmCommand i args = some (.command c) → decode c.cmd = .command i) ∧
  (∀ i, instrOfSpelling (spelling i).toList = some i) ∧
  AssemblesTo (braced "CRC " "0x12, 0x34" "") 0x01 (withData 0x00 [0x12, 0x34]) ∧
  AssemblesTo (braced "CRC.A " "0x12, 0x34" "") 0x21 (withData 0x00 [0x12, 0x34]) ∧
  AssemblesTo (braced "CRC.B " "0x0A, 0x12, 0x34, 0x56" "") 0x41 (withData 0x00 [0x0A, 0x12, 0x34, 0x56]) ∧
  AssemblesTo (braced "APPEND " "0x12, 0x34" "") 0x02 (withData 0x00 [0x12, 0x34]) ∧
  AssemblesTo "APPEND -".toList 0x02 (plain 0x00 0x00 0) ∧
  AssemblesTo (braced "APPEND " "" "") 0x02 (withData 0x00 []) ∧
  AssemblesTo "ADDRB 'A', 3".toList 0x03 (plain 0x41 0x00 3) ∧
  AssemblesTo "ADDRS -1".toList 0x04 (plain 0x00 0x00 0xFFFFFFFF) ∧
  AssemblesTo "ADDR8 63".toList 0x05 (plain 0x00 0x00 63) ∧
  AssemblesTo (braced "SETUID " "0xDE, 0xAD, 0xBE, 0xEF" "") 0x06 (withData 0x00 [0xDE, 0xAD, 0xBE, 0xEF]) ∧
  AssemblesTo "REQ".toList 0x10 (plain 0x00 0x00 0) ∧
  AssemblesTo "WUP".toList 0x11 (plain 0x00 0x00 0) ∧
  AssemblesTo "READ 0x53".toList 0x14 (plain 0x53 0x00 0) ∧
  AssemblesTo "WRITEE 0x53, 0x5A".toList 0x15 (plain 0x53 0x5A 0) ∧
  AssemblesTo "WRITENE 0x53, 0x5A".toList 0x16 (plain 0x53 0x5A 0) ∧
  AssemblesTo "RSEG 0x40".toList 0x17 (plain 0x40 0x00 0) ∧
  AssemblesTo "READ8 0x3F".toList 0x18 (plain 0x3F 0x00 0) ∧
  AssemblesTo (braced "WRITEE8 0x3F, " "0x11, 0x22" "") 0x19 (withData 0x3F [0x11, 0x22]) ∧
  AssemblesTo (braced "WRITENE8 0x3F, " "0x11, 0x22" "") 0x1A (withData 0x3F [0x11, 0x22]) ∧
  AssemblesTo (braced ".cmd 0x61 " "0x12, 0x34" "") 0x61 (withData 0x00 [0x12, 0x34]) ∧
  assembleLine (braced "RESET " "0xDE, 0xAD, 0xBE, 0xEF" ", 0") =
    some (some (.construct ⟨true, [0xDE, 0xAD, 0xBE, 0xEF], true, false⟩)) ∧
  -- program 1, lines 1 to 5
  assembleLine "RESET -, -".toList = some (some (.construct ⟨false, [], false, false⟩)) ∧
  AssemblesTo "RID".toList 0x12 (plain 0x00 0x00 0) ∧
  AssemblesTo (braced "SETUID " "0x13, 0x37, 0xFF, 0x42" "") 0x06 (withData 0x00 [0x13, 0x37, 0xFF, 0x42]) ∧
  AssemblesTo "RALL".toList 0x13 (plain 0x00 0x00 0) ∧
  AssemblesTo (braced "CRC.B " "0x00, 0x00, 0x00, 0x13, 0x37, 0xFF, 0x42, 0x61, 0xFE" "") 0x41
    (withData 0x00 [0x00, 0x00, 0x00, 0x13, 0x37, 0xFF, 0x42, 0x61, 0xFE])

/-! ### One step, from every state: what the statements about runs above come from -/

/-- R23, R48, as an invariant of two blocks: a step keeps them equal in all that can ever be observed, and they give the
same answer to the transaction they accept. It is a claim about one step, so R29's premise does not arise. -/
def Obligations.StepKeepsAgreement : Prop :=
  ∀ s s' t t', SameBuilder s s' → step s = .next t → step s' = .next t' →
    SameBuilder t t' ∧ (s.port ≠ [] → t.resp = t'.resp)

/-- R48, R49, R150, R230, R232: a step that accepts a transaction leaves the builder that the builder before it and that
transaction alone determine. It is a claim about one step, so R29's premise does not arise. -/
def Obligations.StepMovesBuilder : Prop :=
  ∀ s tx rest, s.cfg.wf = true → s.port = tx :: rest →
    ∃ t, step s = .next t ∧ t.port = rest ∧ t.builder = builderAfter s.builder tx
end

