-- ==== Sys2Proof/Laws/State.lean ====
section
/-! SUPPORT. One lemma per field per update of `State`, so that no later proof unfolds a record update. -/

namespace Sys2Proof.Machine.State

@[simp] theorem setResp_built (r : Response) (s : State) : (s.setResp r).built = s.built := rfl
@[simp] theorem setResp_uid (r : Response) (s : State) : (s.setResp r).uid = s.uid := rfl
@[simp] theorem setResp_appendCrc (r : Response) (s : State) : (s.setResp r).appendCrc = s.appendCrc := rfl
@[simp] theorem setResp_refusedMark (r : Response) (s : State) : (s.setResp r).refusedMark = s.refusedMark := rfl
@[simp] theorem setResp_cfg (r : Response) (s : State) : (s.setResp r).cfg = s.cfg := rfl
@[simp] theorem setResp_port (r : Response) (s : State) : (s.setResp r).port = s.port := rfl
@[simp] theorem setResp_ops (r : Response) (s : State) : (s.setResp r).ops = s.ops := rfl
@[simp] theorem setResp_resp (r : Response) (s : State) : (s.setResp r).resp = r := rfl
@[simp] theorem setResp_freeCount (r : Response) (s : State) : (s.setResp r).freeCount = s.freeCount := rfl

@[simp] theorem setUid_built (u : Uid) (s : State) : (s.setUid u).built = s.built := rfl
@[simp] theorem setUid_uid (u : Uid) (s : State) : (s.setUid u).uid = u := rfl
@[simp] theorem setUid_appendCrc (u : Uid) (s : State) : (s.setUid u).appendCrc = s.appendCrc := rfl
@[simp] theorem setUid_refusedMark (u : Uid) (s : State) : (s.setUid u).refusedMark = s.refusedMark := rfl
@[simp] theorem setUid_cfg (u : Uid) (s : State) : (s.setUid u).cfg = s.cfg := rfl
@[simp] theorem setUid_port (u : Uid) (s : State) : (s.setUid u).port = s.port := rfl
@[simp] theorem setUid_ops (u : Uid) (s : State) : (s.setUid u).ops = s.ops := rfl
@[simp] theorem setUid_resp (u : Uid) (s : State) : (s.setUid u).resp = s.resp := rfl
@[simp] theorem setUid_freeCount (u : Uid) (s : State) : (s.setUid u).freeCount = s.freeCount := rfl

@[simp] theorem setBuilder_built (b : Bool) (u : Uid) (f : Bool) (s : State) : (s.setBuilder b u f).built = b := rfl
@[simp] theorem setBuilder_uid (b : Bool) (u : Uid) (f : Bool) (s : State) : (s.setBuilder b u f).uid = u := rfl
@[simp] theorem setBuilder_appendCrc (b : Bool) (u : Uid) (f : Bool) (s : State) : (s.setBuilder b u f).appendCrc = f := rfl
@[simp] theorem setBuilder_refusedMark (b : Bool) (u : Uid) (f : Bool) (s : State) : (s.setBuilder b u f).refusedMark = s.refusedMark := rfl
@[simp] theorem setBuilder_cfg (b : Bool) (u : Uid) (f : Bool) (s : State) : (s.setBuilder b u f).cfg = s.cfg := rfl
@[simp] theorem setBuilder_port (b : Bool) (u : Uid) (f : Bool) (s : State) : (s.setBuilder b u f).port = s.port := rfl
@[simp] theorem setBuilder_ops (b : Bool) (u : Uid) (f : Bool) (s : State) : (s.setBuilder b u f).ops = s.ops := rfl
@[simp] theorem setBuilder_resp (b : Bool) (u : Uid) (f : Bool) (s : State) : (s.setBuilder b u f).resp = s.resp := rfl
@[simp] theorem setBuilder_freeCount (b : Bool) (u : Uid) (f : Bool) (s : State) : (s.setBuilder b u f).freeCount = s.freeCount := rfl

@[simp] theorem setRefused_built (s : State) : (s.setRefused).built = s.built := rfl
@[simp] theorem setRefused_uid (s : State) : (s.setRefused).uid = s.uid := rfl
@[simp] theorem setRefused_appendCrc (s : State) : (s.setRefused).appendCrc = s.appendCrc := rfl
@[simp] theorem setRefused_refusedMark (s : State) : (s.setRefused).refusedMark = true := rfl
@[simp] theorem setRefused_cfg (s : State) : (s.setRefused).cfg = s.cfg := rfl
@[simp] theorem setRefused_port (s : State) : (s.setRefused).port = s.port := rfl
@[simp] theorem setRefused_ops (s : State) : (s.setRefused).ops = s.ops := rfl
@[simp] theorem setRefused_resp (s : State) : (s.setRefused).resp = s.resp := rfl
@[simp] theorem setRefused_freeCount (s : State) : (s.setRefused).freeCount = s.freeCount := rfl

@[simp] theorem nextFree_built (s : State) : (s.nextFree).built = s.built := rfl
@[simp] theorem nextFree_uid (s : State) : (s.nextFree).uid = s.uid := rfl
@[simp] theorem nextFree_appendCrc (s : State) : (s.nextFree).appendCrc = s.appendCrc := rfl
@[simp] theorem nextFree_refusedMark (s : State) : (s.nextFree).refusedMark = s.refusedMark := rfl
@[simp] theorem nextFree_cfg (s : State) : (s.nextFree).cfg = s.cfg := rfl
@[simp] theorem nextFree_port (s : State) : (s.nextFree).port = s.port := rfl
@[simp] theorem nextFree_ops (s : State) : (s.nextFree).ops = s.ops := rfl
@[simp] theorem nextFree_resp (s : State) : (s.nextFree).resp = s.resp := rfl
@[simp] theorem nextFree_freeCount (s : State) : (s.nextFree).freeCount = s.freeCount + 1 := rfl

@[simp] theorem setPort_built (p : List Transaction) (s : State) : (s.setPort p).built = s.built := rfl
@[simp] theorem setPort_uid (p : List Transaction) (s : State) : (s.setPort p).uid = s.uid := rfl
@[simp] theorem setPort_appendCrc (p : List Transaction) (s : State) : (s.setPort p).appendCrc = s.appendCrc := rfl
@[simp] theorem setPort_refusedMark (p : List Transaction) (s : State) : (s.setPort p).refusedMark = s.refusedMark := rfl
@[simp] theorem setPort_cfg (p : List Transaction) (s : State) : (s.setPort p).cfg = s.cfg := rfl
@[simp] theorem setPort_port (p : List Transaction) (s : State) : (s.setPort p).port = p := rfl
@[simp] theorem setPort_ops (p : List Transaction) (s : State) : (s.setPort p).ops = s.ops := rfl
@[simp] theorem setPort_resp (p : List Transaction) (s : State) : (s.setPort p).resp = s.resp := rfl
@[simp] theorem setPort_freeCount (p : List Transaction) (s : State) : (s.setPort p).freeCount = s.freeCount := rfl

@[simp] theorem setOps_built (o : Operands) (s : State) : (s.setOps o).built = s.built := rfl
@[simp] theorem setOps_uid (o : Operands) (s : State) : (s.setOps o).uid = s.uid := rfl
@[simp] theorem setOps_appendCrc (o : Operands) (s : State) : (s.setOps o).appendCrc = s.appendCrc := rfl
@[simp] theorem setOps_refusedMark (o : Operands) (s : State) : (s.setOps o).refusedMark = s.refusedMark := rfl
@[simp] theorem setOps_cfg (o : Operands) (s : State) : (s.setOps o).cfg = s.cfg := rfl
@[simp] theorem setOps_port (o : Operands) (s : State) : (s.setOps o).port = s.port := rfl
@[simp] theorem setOps_ops (o : Operands) (s : State) : (s.setOps o).ops = o := rfl
@[simp] theorem setOps_resp (o : Operands) (s : State) : (s.setOps o).resp = s.resp := rfl
@[simp] theorem setOps_freeCount (o : Operands) (s : State) : (s.setOps o).freeCount = s.freeCount := rfl

end Sys2Proof.Machine.State
end

