-- ==== Sys2Proof/Laws/Ops.lean ====
section
/-! SUPPORT. One lemma for each shared operation that says once everything it can do. -/

namespace Sys2Proof.Machine

theorem ret_eq_next {out : List Byte} {s t : State} : ret out s = .next t ↔ s.setResp (.command .ok out) = t := by
  simp [ret]

theorem raise_eq_next {e : ErrorCode} {s t : State} : raise e s = .next t ↔ s.setResp (.command (.error e) []) = t := by
  simp [raise]

theorem refuse_eq_next {r : RefuseReason} {s t : State} :
    refuse r s = .next t ↔ s.setRefused.setResp (.command (.refused r) []) = t := by
  simp [refuse]

theorem requireBuilt_of_built {k : State → Result} {s : State} (h : s.built = true) : requireBuilt k s = k s := by
  simp [requireBuilt, h]

theorem requireBuilt_of_not_built {k : State → Result} {s : State} (h : s.built = false) :
    requireBuilt k s = raise .notConstructed s := by
  simp [requireBuilt, h]

theorem requireSeqFits_of_fits {k : State → Result} {s : State} (h : seqTooLong s = false) :
    requireSeqFits k s = k s := by
  simp [requireSeqFits, h]

theorem requireSeqFits_of_too_long {k : State → Result} {s : State} (h : seqTooLong s = true) :
    requireSeqFits k s = refuse .seqTooLong s := by
  simp [requireSeqFits, h]

/-- SEQ is too long exactly when it is present and a bounded SEQ_MAX is below its length (R203). -/
theorem seqTooLong_iff {s : State} :
    seqTooLong s = true ↔ s.ops.seqValid = true ∧ ∃ m, s.cfg.seqMax = some m ∧ m < s.ops.seq.length := by
  unfold seqTooLong seqOperand exceedsSeqMax
  cases s.ops.seqValid <;> cases h : s.cfg.seqMax <;> simp

theorem seqOperand_eq_some {o : Operands} {l : List Byte} :
    seqOperand o = some l ↔ o.seqValid = true ∧ o.seq = l := by
  unfold seqOperand
  cases o.seqValid <;> simp

theorem seqOperand_eq_none {o : Operands} : seqOperand o = none ↔ o.seqValid = false := by
  unfold seqOperand
  cases o.seqValid <;> simp

/-- The identifiers a sequence can be: exactly the sequences of 4 bytes (R21). -/
theorem uidOfBytes_eq_some {l : List Byte} {u : Uid} : uidOfBytes l = some u ↔ l = uidBytes u := by
  unfold uidOfBytes uidBytes
  split
  · constructor
    · intro h; cases h; rfl
    · intro h; simp at h; obtain ⟨rfl, rfl, rfl, rfl⟩ := h; rfl
  · rename_i hne
    constructor
    · intro h; cases h
    · intro h; exact absurd h (hne _ _ _ _)

theorem uidOfBytes_eq_none {l : List Byte} : uidOfBytes l = none ↔ l.length ≠ 4 := by
  match l with
  | [] | [_] | [_, _] | [_, _, _] | [_, _, _, _] | _ :: _ :: _ :: _ :: _ :: _ => simp [uidOfBytes]

theorem payload8_eq_some {o : Option (List Byte)} {p : List Byte} :
    payload8 o = some p ↔ o = some p ∧ p.length = 8 := by
  unfold payload8
  cases o with
  | none => simp
  | some l =>
    by_cases h : l.length = 8
    · simp only [h, if_true, Option.some.injEq]
      constructor
      · rintro rfl; exact ⟨rfl, h⟩
      · exact fun q => q.1
    · simp only [h, if_false, Option.some.injEq]
      constructor
      · intro q; cases q
      · rintro ⟨rfl, q⟩; exact absurd q h

/-- Everything a construction can do (R230). -/
theorem construct_cases {r : Construction} {s t : State} (h : construct r s = .next t) :
    (∃ u, constructionUid r = some u ∧
      t = (s.setBuilder true u (constructionAppend r)).setResp (.construction .ok)) ∨
    (constructionUid r = none ∧
      t = (s.setBuilder false (Config.freeUid s.freeCount) (Config.freeAppendCrc s.freeCount)).nextFree.setResp
        (.construction (.error .invalidIdentifier))) := by
  unfold construct at h
  split at h
  · rename_i u hu
    simp only [constructOk, Host.Outcome.next.injEq] at h
    exact .inl ⟨u, hu, h.symm⟩
  · rename_i hu
    simp only [constructFail, Host.Outcome.next.injEq] at h
    exact .inr ⟨hu, h.symm⟩

/-- A construction always answers. -/
theorem construct_next (r : Construction) (s : State) : ∃ t, construct r s = .next t := by
  unfold construct
  split
  · exact ⟨_, rfl⟩
  · exact ⟨_, rfl⟩

end Sys2Proof.Machine
end

