-- ==== Sys2Proof/Laws/Exec.lean ====
section
/-! SUPPORT. What a command and a step can do, said once: later proofs cite these cases and unfold no meaning. -/

namespace Sys2Proof.Machine

/-- How a command ends (R14, R200): it returns bytes, SETUID also writing an identifier; it raises an error; or it is
refused. -/
inductive Ends (i : Instr) (s : State) : State → Prop where
  | returned (out : List Byte) (h : i ≠ .setuid) : Ends i s (s.setResp (.command .ok out))
  | installed (u : Uid) (h : i = .setuid) (hb : s.built = true) (hs : s.ops.seqValid = true)
      (hu : s.ops.seq = uidBytes u) : Ends i s ((s.setUid u).setResp (.command .ok []))
  | raised (e : ErrorCode) (h : e = .notConstructed → s.built = false) :
      Ends i s (s.setResp (.command (.error e) []))
  | refused (r : RefuseReason) : Ends i s (s.setRefused.setResp (.command (.refused r) []))

/-- A result that ends a command `i` begun in `s`. -/
def EndsResult (i : Instr) (s : State) (q : Result) : Prop := ∃ t, q = .next t ∧ Ends i s t

theorem endsResult_ret {i : Instr} {s : State} {out : List Byte} (h : i ≠ .setuid) : EndsResult i s (ret out s) :=
  ⟨_, rfl, .returned out h⟩

theorem endsResult_raise {i : Instr} {s : State} {e : ErrorCode} (h : e ≠ .notConstructed) :
    EndsResult i s (raise e s) :=
  ⟨_, rfl, .raised e fun q => absurd q h⟩

theorem endsResult_refuse {i : Instr} {s : State} {r : RefuseReason} : EndsResult i s (refuse r s) :=
  ⟨_, rfl, .refused r⟩

theorem endsResult_requireBuilt {i : Instr} {s : State} {k : State → Result}
    (h : s.built = true → EndsResult i s (k s)) : EndsResult i s (requireBuilt k s) := by
  cases hb : s.built with
  | true => rw [requireBuilt_of_built hb]; exact h hb
  | false => rw [requireBuilt_of_not_built hb]; exact ⟨_, rfl, .raised _ fun _ => hb⟩

theorem endsResult_requireSeqFits {i : Instr} {s : State} {k : State → Result} (h : EndsResult i s (k s)) :
    EndsResult i s (requireSeqFits k s) := by
  cases hl : seqTooLong s with
  | true => rw [requireSeqFits_of_too_long hl]; exact endsResult_refuse
  | false => rw [requireSeqFits_of_fits hl]; exact h

theorem endsResult_crcCommand {i : Instr} {v : Option Variant} {s : State} (h : i ≠ .setuid) :
    EndsResult i s (crcCommand v s) := by
  refine endsResult_requireSeqFits ?_
  split
  · exact endsResult_ret h
  · exact endsResult_raise (by decide)

theorem endsResult_frameCommand {i : Instr} {op : FrameOp} {x : FrameFields} {s : State} (h : i ≠ .setuid) :
    EndsResult i s (frameCommand op x s) :=
  endsResult_requireBuilt fun _ => endsResult_ret h

theorem endsResult_payloadCommand {i : Instr} {op : FrameOp} {s : State} (h : i ≠ .setuid) :
    EndsResult i s (payloadCommand op s) := by
  refine endsResult_requireBuilt fun _ => endsResult_requireSeqFits ?_
  split
  · exact endsResult_ret h
  · exact endsResult_raise (by decide)

theorem endsResult_append {s : State} : EndsResult .append s (execAppend s) := by
  refine endsResult_requireBuilt fun _ => endsResult_requireSeqFits ?_
  split
  · exact endsResult_ret (by decide)
  · split
    · exact endsResult_raise (by decide)
    · exact endsResult_refuse

theorem endsResult_setuid {s : State} : EndsResult .setuid s (execSetuid s) := by
  refine endsResult_requireBuilt fun hb => endsResult_requireSeqFits ?_
  split
  · rename_i u hu
    obtain ⟨l, hl, hlu⟩ := Option.bind_eq_some_iff.mp hu
    obtain ⟨hv, rfl⟩ := seqOperand_eq_some.mp hl
    exact ⟨_, rfl, .installed u rfl hb hv (uidOfBytes_eq_some.mp hlu)⟩
  · exact endsResult_raise (by decide)

theorem endsResult_addrb {s : State} : EndsResult .addrb s (execAddrb s) := by
  unfold execAddrb
  split
  · exact endsResult_refuse
  · split
    · exact endsResult_refuse
    · exact endsResult_ret (by decide)

theorem endsResult_addrs {s : State} : EndsResult .addrs s (execAddrs s) := by
  unfold execAddrs
  split
  · exact endsResult_raise (by decide)
  · exact endsResult_ret (by decide)

theorem endsResult_addr8 {s : State} : EndsResult .addr8 s (execAddr8 s) := by
  unfold execAddr8
  split
  · exact endsResult_raise (by decide)
  · exact endsResult_ret (by decide)

/-- Every command ends in one of the four ways (R200, R243). -/
theorem exec_ends (i : Instr) (s : State) : EndsResult i s (exec i s) := by
  cases i with
  | crc => exact endsResult_crcCommand (v := none) (by decide)
  | crcA => exact endsResult_crcCommand (v := some .a) (by decide)
  | crcB => exact endsResult_crcCommand (v := some .b) (by decide)
  | append => exact endsResult_append
  | addrb => exact endsResult_addrb
  | addrs => exact endsResult_addrs
  | addr8 => exact endsResult_addr8
  | setuid => exact endsResult_setuid
  | req | wup | rid | rall | read | writee | writene | rseg | read8 =>
    refine endsResult_frameCommand ?_
    decide
  | writee8 | writene8 =>
    refine endsResult_payloadCommand ?_
    decide

/-- The inversion lemma of `exec`. -/
theorem exec_cases {i : Instr} {s t : State} (h : exec i s = .next t) : Ends i s t := by
  obtain ⟨t', ht', he⟩ := exec_ends i s
  rw [h] at ht'
  cases ht'
  exact he

/-- Everything a step can do: nothing on an empty port; a command, decoded or illegal; a construction. -/
theorem step_cases {s t : State} (h : step s = .next t) :
    (s.port = [] ∧ t = s) ∨
    (∃ c rest i, s.port = .command c :: rest ∧ decode c.cmd = .command i ∧
      Ends i ((s.setPort rest).setOps c.ops) t) ∨
    (∃ c rest why, s.port = .command c :: rest ∧ decode c.cmd = .illegal why ∧
      t = ((s.setPort rest).setOps c.ops).setResp (.command (.error .illegalCommand) [])) ∨
    (∃ r rest, s.port = .construct r :: rest ∧ construct r (s.setPort rest) = .next t) := by
  unfold step at h
  split at h
  · rename_i hp
    cases h
    exact .inl ⟨hp, rfl⟩
  · rename_i c rest hp
    unfold performCommand at h
    split at h
    · rename_i i hd
      exact .inr (.inl ⟨c, rest, i, hp, hd, exec_cases h⟩)
    · rename_i why hd
      simp only [illegalCommand, raise_eq_next] at h
      exact .inr (.inr (.inl ⟨c, rest, why, hp, hd, h.symm⟩))
  · rename_i r rest hp
    exact .inr (.inr (.inr ⟨r, rest, hp, h⟩))

end Sys2Proof.Machine
end

