-- ==== Sys2Proof/Laws/Frames.lean ====
section
/-! SUPPORT. Lemmas about assembling a frame (spec 30_encoding.md R69 to R71, 41_frames.md R130, R131). -/

namespace Sys2Proof.Machine

@[simp] theorem zeros_length (n : Nat) : (zeros n).length = n := by simp [zeros]

@[simp] theorem writeSpan_length (f : List Byte) (k : Nat) (bs : List Byte) : (writeSpan f k bs).length = f.length := by
  induction bs generalizing f k with
  | nil => rfl
  | cons b rest ih => simp [writeSpan, ih]

@[simp] theorem writeField_length (f : List Byte) (k : Nat) (b : Option Byte) :
    (writeField f k b).length = f.length := by
  cases b <;> simp [writeField]

@[simp] theorem writeSpanField_length (f : List Byte) (k : Nat) (bs : Option (List Byte)) :
    (writeSpanField f k bs).length = f.length := by
  cases bs <;> simp [writeSpanField]

@[simp] theorem writeIdent_length (f : List Byte) (fmt : FrameFormat) (u : Uid) :
    (writeIdent f fmt u).length = f.length := by
  unfold writeIdent
  split <;> simp

/-- A pre-checksum frame has its format's length, whatever is written into it. -/
theorem preFrame_length (c : Config) (u : Uid) (op : FrameOp) (x : FrameFields) :
    (preFrame c u op x).length = preLength (frameFormat op) := by
  simp [preFrame]

theorem crcAcc_append (seed : Word16) (l m : List Byte) : crcAcc seed (l ++ m) = crcAcc (crcAcc seed l) m := by
  induction l generalizing seed with
  | nil => rfl
  | cons b rest ih => simp [crcAcc, ih]

/-- With the flag the result is two bytes longer, without it it is the sequence itself (R131). -/
theorem appendIfConfigured_length (flag : Bool) (l : List Byte) :
    (appendIfConfigured flag l).length = l.length + (if flag then 2 else 0) := by
  cases flag <;> simp [appendIfConfigured, crcCompute]

end Sys2Proof.Machine
end

