-- ==== Sys2Proof/Laws/PerInstr.lean ====
section
/-! SUPPORT. Statements made of each command by itself, one lemma per constructor of `Instr`. -/

namespace Sys2Proof.Laws.LegalWord

/-- The command's word is a legal command word (spec 30_encoding.md R66). -/
def Statement (i : Instr) : Prop := CmdWord.legal (encode i) = true

theorem crc : Statement .crc := by unfold Statement; decide
theorem crcA : Statement .crcA := by unfold Statement; decide
theorem crcB : Statement .crcB := by unfold Statement; decide
theorem append : Statement .append := by unfold Statement; decide
theorem addrb : Statement .addrb := by unfold Statement; decide
theorem addrs : Statement .addrs := by unfold Statement; decide
theorem addr8 : Statement .addr8 := by unfold Statement; decide
theorem setuid : Statement .setuid := by unfold Statement; decide
theorem req : Statement .req := by unfold Statement; decide
theorem wup : Statement .wup := by unfold Statement; decide
theorem rid : Statement .rid := by unfold Statement; decide
theorem rall : Statement .rall := by unfold Statement; decide
theorem read : Statement .read := by unfold Statement; decide
theorem writee : Statement .writee := by unfold Statement; decide
theorem writene : Statement .writene := by unfold Statement; decide
theorem rseg : Statement .rseg := by unfold Statement; decide
theorem read8 : Statement .read8 := by unfold Statement; decide
theorem writee8 : Statement .writee8 := by unfold Statement; decide
theorem writene8 : Statement .writene8 := by unfold Statement; decide

end Sys2Proof.Laws.LegalWord
end

