-- ==== Sys2Proof/Tests/Slice0.lean ====
section
/-! SUPPORT. Tests of one step or one operation, with expected results from spec/ (the file's section stands beside each),
and for every statement with hypotheses a state that meets them. -/

namespace Sys2Proof.Tests

open Sys2Proof Sys2Proof.Machine Sys2Proof.Claims

/-! ### Form: an ill-formed term for each check -/

theorem test_reserved_bit_refused : CmdWord.legal 0x90 = false := by decide
theorem test_unassigned_op_refused : CmdWord.legal 0x1B = false := by decide
theorem test_reserved_variant_refused : CmdWord.legal 0x61 = false := by decide
theorem test_variant_off_crc_refused : CmdWord.legal 0x30 = false := by decide
theorem test_small_seq_max_refused : (Config.mk OpcTable.default (some 13)).wf = false := by decide
theorem test_least_seq_max_allowed : (Config.mk OpcTable.default (some 14)).wf = true := by decide

/-! ### Decoding: RSV, VAR, OP written out from 30_encoding.md R61 to R63 -/

theorem test_decode_crc : decode 0b00000001 = .command .crc := by decide
theorem test_decode_crcA : decode 0b00100001 = .command .crcA := by decide
theorem test_decode_crcB : decode 0b01000001 = .command .crcB := by decide
theorem test_decode_append : decode 0b00000010 = .command .append := by decide
theorem test_decode_addrb : decode 0b00000011 = .command .addrb := by decide
theorem test_decode_addrs : decode 0b00000100 = .command .addrs := by decide
theorem test_decode_addr8 : decode 0b00000101 = .command .addr8 := by decide
theorem test_decode_setuid : decode 0b00000110 = .command .setuid := by decide
theorem test_decode_req : decode 0b00010000 = .command .req := by decide
theorem test_decode_wup : decode 0b00010001 = .command .wup := by decide
theorem test_decode_rid : decode 0b00010010 = .command .rid := by decide
theorem test_decode_rall : decode 0b00010011 = .command .rall := by decide
theorem test_decode_read : decode 0b00010100 = .command .read := by decide
theorem test_decode_writee : decode 0b00010101 = .command .writee := by decide
theorem test_decode_writene : decode 0b00010110 = .command .writene := by decide
theorem test_decode_rseg : decode 0b00010111 = .command .rseg := by decide
theorem test_decode_read8 : decode 0b00011000 = .command .read8 := by decide
theorem test_decode_writee8 : decode 0b00011001 = .command .writee8 := by decide
theorem test_decode_writene8 : decode 0b00011010 = .command .writene8 := by decide
theorem test_decode_reasons : decode 0x90 = .illegal .reservedBitSet ∧ decode 0x61 = .illegal .reservedVariant ∧
    decode 0x30 = .illegal .variantOnNonCrc ∧ decode 0x00 = .illegal .unassignedOp := by decide
theorem test_table_word : decodeTableWord 8 0x41 = some .crcB ∧ decodeTableWord 8 0x07 = none := by decide

/-! ### Checksum engine: 95_test_vectors.md L2-1, L2-2 -/

theorem test_crcStep_vectors : crcStep 0x6363 0x12 = 0x626D ∧ crcStep 0xFFFF 0x00 = 0x0F87 ∧
    crcStep 0x1234 0x56 = 0x4006 ∧ crcStep 0x00FF 0xFF = 0x0000 := by decide
theorem test_crcStep_forms : crcStepBits 0x6363 0x12 = 0x626D ∧ crcStepSerial 0x6363 0x12 = 0x626D := by decide
theorem test_check_values :
    crcCompute .a [0x31, 0x32, 0x33, 0x34, 0x35, 0x36, 0x37, 0x38, 0x39] = [0x05, 0xBF] ∧
    crcCompute .b [0x31, 0x32, 0x33, 0x34, 0x35, 0x36, 0x37, 0x38, 0x39] = [0x6E, 0x90] := by decide

/-! ### One command on a small state -/

/-- The operand signals with this OPA, OPB and IDX and no sequence. -/
def ports (a d : Byte) (i : Index) : Operands := ⟨a, d, i, false, []⟩

/-- The operand signals with this OPA and this sequence. -/
def withSeq (a : Byte) (l : List Byte) : Operands := ⟨a, 0x00, 0, true, l⟩

/-- The block after reset with this APPEND_CRC, the identifier U = 13 37 FF 42, and these operand signals. -/
def block (f : Bool) (o : Operands) : State :=
  { State.reset with appendCrc := f, uid := ⟨0x13, 0x37, 0xFF, 0x42⟩, ops := o }

/-- The same block before any construction. -/
def unbuilt (o : Operands) : State := { block true o with built := false }

/-- The same block with SEQ_MAX = 14. -/
def bounded (f : Bool) (o : Operands) : State := { block f o with cfg := ⟨OpcTable.default, some 14⟩ }

/-- The payload P of 95_test_vectors.md. -/
def payloadP : List Byte := [0x11, 0x22, 0x33, 0x44, 0x55, 0x66, 0x77, 0x88]

/-- A sequence of `n` zero bytes. -/
def zeroSeq (n : Nat) : List Byte := List.replicate n 0x00

/-- STATUS and OUT as the host reads them. -/
def reads (q : Result) : Option (Byte × List Byte) :=
  match q with
  | .next t => (responseCode t.resp).map fun c => (c, responseOut t.resp)
  | .fault _ => none
  | .refused _ => none

-- L2-2
theorem test_crc_variant_absent : reads (exec .crc (block true (withSeq 0 [0x12, 0x34]))) = some (0x01, []) := by decide
theorem test_crcA_vector : reads (exec .crcA (unbuilt (withSeq 0 [0x12, 0x34]))) = some (0x00, [0x26, 0xCF]) := by decide
theorem test_crcA_absent : reads (exec .crcA (block true (ports 0 0 0))) = some (0x01, []) := by decide
theorem test_crcB_vector :
    reads (exec .crcB (block true (withSeq 0 [0x0A, 0x12, 0x34, 0x56]))) = some (0x00, [0x2C, 0xF6]) := by decide
theorem test_crcB_too_long : reads (exec .crcB (bounded true (withSeq 0 (zeroSeq 15)))) = some (0xFF, []) := by decide
-- L2-7
theorem test_append_flag_one :
    reads (exec .append (block true (withSeq 0 [0x12, 0x34]))) = some (0x00, [0x12, 0x34, 0xC1, 0xDE]) := by decide
theorem test_append_absent_flag_zero : reads (exec .append (block false (ports 0 0 0))) = some (0xFF, []) := by decide
-- L2-6
theorem test_addrb_largest : reads (exec .addrb (unbuilt (ports 0x46 0 7))) = some (0x00, [0x7F]) := by decide
theorem test_addrb_digit_first : exec .addrb (block true (ports 0x47 0 8)) =
    refuses (block true (ports 0x47 0 8)) .digitDomain := rfl
theorem test_addrs_two : reads (exec .addrs (block true (ports 0 0 2))) = some (0x00, [0x40]) := by decide
theorem test_addrs_minus_one : reads (exec .addrs (block true (ports 0 0 0xFFFFFFFF))) = some (0x04, []) := by decide
theorem test_addr8_largest : reads (exec .addr8 (block true (ports 0 0 63))) = some (0x00, [0x3F]) := by decide
theorem test_addr8_beyond : reads (exec .addr8 (block true (ports 0 0 256))) = some (0x05, []) := by decide
-- L2-5
theorem test_setuid_installs : exec .setuid (block true (withSeq 0 [0xDE, 0xAD, 0xBE, 0xEF])) =
    ret [] { block true (withSeq 0 [0xDE, 0xAD, 0xBE, 0xEF]) with uid := ⟨0xDE, 0xAD, 0xBE, 0xEF⟩ } := rfl
theorem test_setuid_three_bytes : reads (exec .setuid (block true (withSeq 0 [1, 2, 3]))) = some (0x02, []) := by decide
-- L2-4, with the default OPC of R68
theorem test_req : reads (exec .req (block true (ports 0 0 0))) = some (0x00, [0x26, 0x4C, 0xB4]) := by decide
theorem test_wup : reads (exec .wup (block true (ports 0 0 0))) = some (0x00, [0x52, 0xEF, 0x81]) := by decide
theorem test_rid : reads (exec .rid (block true (ports 0 0 0))) =
    some (0x00, [0x78, 0x00, 0x00, 0x00, 0x00, 0x00, 0x00, 0xD0, 0x43]) := by decide
theorem test_rall : reads (exec .rall (block true (ports 0 0 0))) =
    some (0x00, [0x00, 0x00, 0x00, 0x13, 0x37, 0xFF, 0x42, 0x61, 0xFE]) := by decide
theorem test_rall_not_constructed : reads (exec .rall (unbuilt (ports 0 0 0))) = some (0x11, []) := by decide
theorem test_read_unchecked_address : reads (exec .read (block true (ports 0xFF 0 0))) =
    some (0x00, [0x01, 0xFF, 0x00, 0x13, 0x37, 0xFF, 0x42, 0x9E, 0x9C]) := by decide
theorem test_writee : reads (exec .writee (block true (ports 0x53 0x5A 0))) =
    some (0x00, [0x53, 0x53, 0x5A, 0x13, 0x37, 0xFF, 0x42, 0x16, 0x51]) := by decide
theorem test_writene : reads (exec .writene (block true (ports 0x53 0x5A 0))) =
    some (0x00, [0x1A, 0x53, 0x5A, 0x13, 0x37, 0xFF, 0x42, 0x29, 0xD7]) := by decide
theorem test_rseg : reads (exec .rseg (block true (ports 0x40 0 0))) =
    some (0x00, [0x10, 0x40, 0, 0, 0, 0, 0, 0, 0, 0, 0x13, 0x37, 0xFF, 0x42, 0xFD, 0x6E]) := by decide
theorem test_read8 : reads (exec .read8 (block true (ports 0x3F 0 0))) =
    some (0x00, [0x02, 0x3F, 0, 0, 0, 0, 0, 0, 0, 0, 0x13, 0x37, 0xFF, 0x42, 0xF4, 0xFC]) := by decide
theorem test_writee8 : reads (exec .writee8 (block true (withSeq 0x3F payloadP))) =
    some (0x00, [0x54, 0x3F, 0x11, 0x22, 0x33, 0x44, 0x55, 0x66, 0x77, 0x88, 0x13, 0x37, 0xFF, 0x42, 0x09, 0x31]) := by
  decide
theorem test_writee8_seven_bytes : reads (exec .writee8 (block true (withSeq 0x3F (zeroSeq 7)))) = some (0x03, []) := by
  decide
theorem test_writene8 : reads (exec .writene8 (block true (withSeq 0x3F payloadP))) =
    some (0x00, [0x1B, 0x3F, 0x11, 0x22, 0x33, 0x44, 0x55, 0x66, 0x77, 0x88, 0x13, 0x37, 0xFF, 0x42, 0x82, 0xED]) := by
  decide
theorem test_writene8_unbuilt_first : reads (exec .writene8 (unbuilt (withSeq 0x3F [0x11]))) = some (0x11, []) := by
  decide

/-! ### One step -/

theorem test_step_illegal_word :
    reads (step ((block true (ports 0 0 0)).setPort [.command ⟨0x61, withSeq 0 [0x12, 0x34]⟩])) = some (0x10, []) := by
  decide
-- L2-8
theorem test_step_construct : step ((block true (ports 0 0 0)).setPort [.construct ⟨false, [], true, false⟩]) =
    .next { block false (ports 0 0 0) with uid := ⟨0, 0, 0, 0⟩, resp := .construction .ok } := rfl
theorem test_step_construct_fails :
    reads (step ((block true (ports 0 0 0)).setPort [.construct ⟨true, [1, 2, 3], true, true⟩])) = some (0x02, []) := by
  decide
theorem test_step_fetch_word : reads (step (State.reset.withFetchWord 8 0x12)) =
    some (0x00, [0x78, 0x00, 0x00, 0x00, 0x00, 0x00, 0x00, 0xD0, 0x43]) := by decide
theorem test_step_idle : step State.reset = .next State.reset := rfl
theorem test_present_is_last : ((block true (ports 0 0 0)).present (.construct ⟨false, [], false, false⟩)).port =
    [.construct ⟨false, [], false, false⟩] := by decide
theorem test_step_other_instance : stepInstance 1 [block true (ports 0 0 0)] = .next [block true (ports 0 0 0)] := rfl

/-! ### Assembler: 30_encoding.md R73, lines of 95_test_vectors.md -/

theorem test_assemble_reset : assembleLine (braced "RESET " "0x13, 0x37, 0xFF, 0x42" ", 0 ; L2-8") =
    some (some (.construct ⟨true, [0x13, 0x37, 0xFF, 0x42], true, false⟩)) := by decide
theorem test_assemble_payload : assembleLine (braced "WRITEE8 0x3F, " "" "") =
    some (some (.command ⟨0x19, withSeq 0x3F []⟩)) := by decide
theorem test_assemble_negative : assembleLine "ADDRS -1".toList =
    some (some (.command ⟨0x04, ports 0 0 0xFFFFFFFF⟩)) := by decide
theorem test_assemble_cmd : assembleLine (braced ".cmd 0x61 " "0x12, 0x34" "") =
    some (some (.command ⟨0x61, withSeq 0 [0x12, 0x34]⟩)) := by decide
theorem test_assemble_rejects : assembleLine "RID 0x00".toList = none := by decide
theorem test_assemble_comment : assembleLine "; nothing".toList = some none := by decide

/-! ### Witnesses: every hypothesis of a statement is met by a concrete state -/

/-- Any sequence fits the unbounded SEQ_MAX. -/
theorem fits_unbounded (f : Bool) (o : Operands) : SeqFits (block f o) := by
  intro _ m h
  cases h

/-- A sequence of at most 14 bytes fits SEQ_MAX = 14. -/
theorem fits_bounded {f : Bool} {o : Operands} (h : o.seq.length ≤ 14) : SeqFits (bounded f o) := by
  intro _ m hm
  cases hm
  exact h

/-- 15 bytes do not fit SEQ_MAX = 14. -/
theorem too_long_bounded (f : Bool) : ¬ SeqFits (bounded f (withSeq 0x3F (zeroSeq 15))) :=
  fun h => absurd (h rfl 14 rfl) (show ¬ (zeroSeq 15).length ≤ 14 by decide)

theorem witness_EmptySequenceIsValid : HasSeq (block true (withSeq 0 [])) [] ∧
    (block true (ports 0 0 0)).ops.seqValid = false := by exact ⟨⟨rfl, rfl⟩, rfl⟩

theorem witness_ChecksumStatedProperties : HasSeq (block true (withSeq 0 payloadP)) payloadP ∧
    HasSeq (unbuilt (withSeq 7 payloadP)) payloadP ∧ SeqFits (block true (withSeq 0 payloadP)) ∧
    SeqFits (unbuilt (withSeq 7 payloadP)) :=
  ⟨⟨rfl, rfl⟩, ⟨rfl, rfl⟩, fits_unbounded _ _, fun _ _ h => nomatch h⟩

theorem witness_CrcCommandOutcomes_fits_at_limit : HasSeq (bounded true (withSeq 0 (zeroSeq 14))) (zeroSeq 14) ∧
    SeqFits (bounded true (withSeq 0 (zeroSeq 14))) := ⟨⟨rfl, rfl⟩, fits_bounded (by decide)⟩

theorem witness_CrcCommandOutcomes_too_long : ∃ s, ¬ SeqFits s := ⟨_, too_long_bounded true⟩

theorem witness_frame_commands_unbuilt : (unbuilt (ports 0 0 0)).built = false := rfl

theorem witness_frame_commands_built : (block true (ports 0xFF 0xFF 0)).built = true := rfl

theorem witness_ReadIdFrameCommand : (block false (ports 0 0 0)).built = true ∧
    (block false (ports 0 0 0)).appendCrc = false ∧ (block true (ports 0 0 0)).built = true ∧
    (block true (ports 0 0 0)).appendCrc = true := by decide

theorem witness_EightByteWrite_too_long : (bounded true (withSeq 0x3F (zeroSeq 15))).built = true ∧
    ¬ SeqFits (bounded true (withSeq 0x3F (zeroSeq 15))) := ⟨rfl, too_long_bounded true⟩

theorem witness_EightByteWrite_nine_bytes : (block true (withSeq 0x3F (zeroSeq 9))).built = true ∧
    SeqFits (block true (withSeq 0x3F (zeroSeq 9))) ∧ (block true (withSeq 0x3F (zeroSeq 9))).ops.seq.length ≠ 8 :=
  ⟨rfl, fits_unbounded _ _, by decide⟩

theorem witness_EightByteWrite_payload : (block true (withSeq 0x3F payloadP)).built = true ∧
    SeqFits (block true (withSeq 0x3F payloadP)) ∧ HasSeq (block true (withSeq 0x3F payloadP)) payloadP ∧
    payloadP.length = 8 := ⟨rfl, fits_unbounded _ _, ⟨rfl, rfl⟩, rfl⟩

theorem witness_EightByteWrite_refusal_under_wf : (bounded true (withSeq 0x3F (zeroSeq 15))).cfg.wf = true ∧
    exec .writee8 (bounded true (withSeq 0x3F (zeroSeq 15))) =
      refuses (bounded true (withSeq 0x3F (zeroSeq 15))) .seqTooLong := ⟨rfl, rfl⟩

theorem witness_returned_frame_one_byte : ∃ t out, frameOpOf .req = some .request ∧
    exec .req (block false (ports 0 0 0)) = .next t ∧ t.resp = .command .ok out := ⟨_, _, rfl, rfl, rfl⟩

theorem witness_returned_frame_with_identifier : ∃ t out, frameOpOf .writee8 = some .writeErase8 ∧
    spanStart .writeErase8 = some 10 ∧ (block true (withSeq 0x3F payloadP)).appendCrc = true ∧
    exec .writee8 (block true (withSeq 0x3F payloadP)) = .next t ∧ t.resp = .command .ok out :=
  ⟨_, _, rfl, rfl, rfl, rfl, rfl⟩

theorem witness_returned_frame_seven_bytes : ∃ t out, frameOpOf .rall = some .readAll ∧
    spanStart .readAll = some 3 ∧ exec .rall (block true (ports 0 0 0)) = .next t ∧ t.resp = .command .ok out :=
  ⟨_, _, rfl, rfl, rfl, rfl⟩

theorem witness_FrameWithTrailerPassesResidueCheck : ∃ t out, (block true (ports 0 0 0)).appendCrc = true ∧
    exec .req (block true (ports 0 0 0)) = .next t ∧ t.resp = .command .ok out ∧
    HasSeq (block true (withSeq 0 out)) out ∧ SeqFits (block true (withSeq 0 out)) :=
  ⟨_, _, rfl, rfl, rfl, ⟨rfl, rfl⟩, fits_unbounded _ _⟩

theorem witness_AppendCommandOutcomes_absent : (block true (ports 0 0 0)).built = true ∧
    (block true (ports 0 0 0)).ops.seqValid = false ∧ (block true (ports 0 0 0)).appendCrc = true ∧
    (block false (ports 0 0 0)).appendCrc = false := by decide

theorem witness_AppendTwiceAddsConstantTrailer :
    HasSeq (block true (withSeq 0 ([] ++ trailer true []))) ([] ++ trailer true []) ∧
    SeqFits (block true (withSeq 0 ([] ++ trailer true []))) := ⟨⟨rfl, rfl⟩, fits_unbounded _ _⟩

theorem witness_DigitTable_boundaries : digitValue 0x30 = some 0 ∧ digitValue 0x39 = some 9 ∧ digitValue 0x41 = some 10 ∧
    digitValue 0x46 = some 15 ∧ digitValue 0x2F = none ∧ digitValue 0x3A = none ∧ digitValue 0x40 = none ∧
    digitValue 0x47 = none ∧ digitValue 0x61 = none := by decide

theorem witness_AddrbCommandOutcomes : digitValue (ports 0x61 0 3).opa = none ∧
    digitValue (ports 0x41 0 8).opa = some 10 ∧ 7 < (ports 0x41 0 8).idx.toInt ∧
    (ports 0x41 0 0xFFFFFFFF).idx.toInt < 0 ∧ digitValue (ports 0x46 0 7).opa = some 15 ∧
    (ports 0x46 0 7).idx.toInt = ((7 : Nat) : Int) := by decide

theorem witness_AddrsCommandOutcomes : 3 < (ports 0 0 4).idx.toInt ∧ (ports 0 0 0xFFFFFFFF).idx.toInt < 0 ∧
    (ports 0 0 0).idx.toInt = 0 ∧ (ports 0 0 1).idx.toInt = 1 ∧ (ports 0 0 2).idx.toInt = 2 ∧
    (ports 0 0 3).idx.toInt = 3 := by decide

theorem witness_Addr8CommandOutcomes : 0x3F < (ports 0 0 0x40).idx.toInt ∧ (ports 0 0 0x80000000).idx.toInt < 0 ∧
    0 ≤ (ports 0 0 0).idx.toInt ∧ (ports 0 0 0x3F).idx.toInt ≤ 0x3F := by decide

theorem witness_AddressByteFormats_helpers : (∃ t, exec .addrb (block true (ports 0x46 0 7)) = .next t ∧
    t.resp = .command .ok [0x7F]) ∧ (∃ t, exec .addrs (block true (ports 0 0 3)) = .next t ∧
    t.resp = .command .ok [0x60]) ∧ (∃ t, exec .addr8 (block true (ports 0 0 0x3F)) = .next t ∧
    t.resp = .command .ok [0x3F]) := ⟨⟨_, rfl, rfl⟩, ⟨_, rfl, rfl⟩, ⟨_, rfl, rfl⟩⟩

theorem witness_AddressByteFormats_frames : ∃ t out, exec .read (block true (ports 0xFF 0 0)) = .next t ∧
    t.resp = .command .ok out := ⟨_, _, rfl, rfl⟩

theorem witness_SetuidCommandOutcomes : SeqFits (block true (withSeq 0 [0xDE, 0xAD, 0xBE, 0xEF])) ∧
    HasSeq (block true (withSeq 0 [0xDE, 0xAD, 0xBE, 0xEF])) [0xDE, 0xAD, 0xBE, 0xEF] ∧
    SeqFits (block true (withSeq 0 [1, 2, 3])) ∧ (block true (withSeq 0 [1, 2, 3])).ops.seq.length ≠ 4 ∧
    (block true (ports 0 0 0)).ops.seqValid = false :=
  ⟨fits_unbounded _ _, ⟨rfl, rfl⟩, fits_unbounded _ _, by decide, rfl⟩

/-- A block with one construction waiting. -/
def reset1 (r : Construction) : State := (block true (ports 0 0 0)).setPort [.construct r]

theorem witness_ConstructionOutcomes :
    (reset1 ⟨false, [1], false, false⟩).port = [.construct ⟨false, [1], false, false⟩] ∧
    (⟨true, [1, 2, 3, 4], true, false⟩ : Construction).rstUid = [1, 2, 3, 4] ∧
    (⟨true, [1, 2, 3, 4, 5], true, false⟩ : Construction).rstUid.length ≠ 4 ∧
    (⟨true, [], true, false⟩ : Construction).rstUid.length ≠ 4 := by decide

theorem witness_ConstructionReplacesBuilder : ∃ t t', step (reset1 ⟨false, [], true, false⟩) = .next t ∧
    step ((unbuilt (ports 0 0 0)).setPort [.construct ⟨false, [], true, false⟩]) = .next t' ∧
    t.appendCrc ≠ (reset1 ⟨false, [], true, false⟩).appendCrc := ⟨_, _, rfl, rfl, by decide⟩

theorem witness_PowerUpCommands : SeqFits ((State.powerUp Config.default).setOps (withSeq 0x46 [])) ∧
    HasSeq ((State.powerUp Config.default).setOps (withSeq 0x46 [])) [] ∧
    digitValue (withSeq 0x46 []).opa = some 15 ∧ (withSeq 0x46 []).idx.toInt = ((0 : Nat) : Int) :=
  ⟨fun _ _ h => (nomatch h), ⟨rfl, rfl⟩, rfl, rfl⟩

/-- A block with one command waiting. -/
def issue1 (w : Byte) (o : Operands) : State := (block true (ports 0 0 0)).setPort [.command ⟨w, o⟩]

theorem witness_illegal_word : (issue1 0x61 (ports 0 0 0)).port = [.command ⟨0x61, ports 0 0 0⟩] ∧
    CmdWord.legal 0x61 = false := by decide

theorem witness_SpecErrors_builder_commands : Instr.writene8 ∈ builderCommands ∧ Instr.append ∈ builderCommands ∧
    (unbuilt (ports 0 0 0)).built = false := by decide

theorem witness_SpecErrors_free_commands : ∃ t, exec .addr8 (unbuilt (ports 0 0 0)) = .next t := ⟨_, rfl⟩

theorem witness_FailureWritesNothing_error : ∃ t, step (issue1 0x04 (ports 0 0 4)) = .next t ∧
    t.resp = .command (.error .invalidSegmentIndex) [] := ⟨_, rfl, rfl⟩

theorem witness_FailureWritesNothing_refusal : ∃ t, step (issue1 0x03 (ports 0x61 0 3)) = .next t ∧
    t.resp = .command (.refused .digitDomain) [] := ⟨_, rfl, rfl⟩

theorem witness_OrderOfChecks_too_long : Instr.setuid ∈ seqCommands ∧ Instr.setuid ∈ builderCommands ∧
    Instr.crcB ∈ seqCommands ∧ Instr.crcB ∉ builderCommands := by decide

theorem witness_OrderOfChecks_all_at_once : (unbuilt (ports 0 0 0)).built = false ∧
    exec .writee8 { bounded true (withSeq 0x3F (zeroSeq 15)) with built := false } =
      fails { bounded true (withSeq 0x3F (zeroSeq 15)) with built := false } .notConstructed := ⟨rfl, rfl⟩

theorem witness_RefusedMarkIsSticky : ∃ t, step (issue1 0x03 (ports 0x61 0 3)) = .next t ∧
    (issue1 0x03 (ports 0x61 0 3)).port ≠ [] ∧ step (block true (ports 0 0 0)) = .next (block true (ports 0 0 0)) ∧
    (block true (ports 0 0 0)).port = [] := ⟨_, rfl, by decide, rfl, rfl⟩

theorem witness_OnlySetuidAndConstructionWrite :
    (∃ t, exec .setuid (block true (withSeq 0 [0xDE, 0xAD, 0xBE, 0xEF])) = .next t) ∧
    (∃ t, Instr.rid ≠ .setuid ∧ exec .rid (block true (ports 0 0 0)) = .next t) := ⟨⟨_, rfl⟩, ⟨_, by decide, rfl⟩⟩

theorem witness_IgnoredPortsHaveNoEffect : AgreeOnUsed .read (ports 0x53 0 0) (ports 0x53 0xFF 7) ∧
    ∃ t, exec .read (block true (ports 0x53 0 0)) = .next t :=
  ⟨⟨fun _ => rfl, by decide, by decide, by decide⟩, ⟨_, rfl⟩⟩

theorem witness_IgnoredPortsHaveNoEffect_absent_seq :
    AgreeOnUsed .append (ports 0 0 0) ⟨0xFF, 0xFF, 9, false, payloadP⟩ :=
  ⟨by decide, by decide, by decide, fun _ => ⟨rfl, fun h => nomatch h⟩⟩

theorem witness_ParametersNeverChange : ∃ t, step (issue1 0x12 (ports 0 0 0)) = .next t := ⟨_, rfl⟩

theorem witness_StepRunsDecodedCommand : (issue1 0x12 (ports 0 0 0)).port = [.command ⟨0x12, ports 0 0 0⟩] ∧
    decode 0x12 = .command .rid ∧ (block true (ports 0 0 0)).port = [] := by decide

theorem witness_StepKeepsInvariant : BlockInv (issue1 0x12 (ports 0 0 0)) ∧
    ∃ t, step (issue1 0x12 (ports 0 0 0)) = .next t :=
  ⟨⟨rfl, (by intro _ _ h; cases h), (by intro _ _ h; cases h), (by intro _ h; cases h; exact .inl ⟨rfl, rfl⟩),
    (by intro _ h; cases h), (by intro _ _ _ _ h; cases h)⟩, ⟨_, rfl⟩⟩

theorem witness_UnspecifiedBuilderNeverObserved :
    SameBuilder ((unbuilt (ports 0 0 0)).setPort [.command ⟨0x12, ports 0 0 0⟩])
      ({ unbuilt (ports 0 0 0) with uid := ⟨1, 2, 3, 4⟩, appendCrc := false }.setPort [.command ⟨0x12, ports 0 0 0⟩]) ∧
    1 ≤ ((unbuilt (ports 0 0 0)).setPort [.command ⟨0x12, ports 0 0 0⟩]).port.length :=
  ⟨⟨rfl, rfl, rfl, fun h => nomatch h⟩, by decide⟩

theorem witness_UnspecifiedBuilder_construct : ∃ t, step (reset1 ⟨true, [1, 2, 3], true, true⟩) = .next t := ⟨_, rfl⟩

/-- Three transactions: a construction, a SETUID and a command that is refused. -/
theorem witness_BuilderFollowsTransactions_run :
    [Transaction.construct ⟨false, [], true, false⟩, .command ⟨0x06, withSeq 0 [1, 2, 3, 4]⟩,
      .command ⟨0x03, ports 0x61 0 3⟩].foldl builderAfter (unbuilt (ports 0 0 0)).builder =
      some (⟨1, 2, 3, 4⟩, false) ∧ (unbuilt (ports 0 0 0)).cfg.wf = true := ⟨rfl, rfl⟩

theorem witness_BuilderFollowsTransactions : (reset1 ⟨true, [1, 2, 3], true, true⟩).cfg.wf = true := rfl

theorem witness_FrameCarriesLastIdentifier : (block true (ports 0 0 0)).cfg.wf = true ∧
    (issue1 0x13 (ports 0 0 0)).port = [] ++ [.command ⟨0x13, ports 0 0 0⟩] ∧ decode 0x13 = .command .rall ∧
    frameOpOf .rall = some .readAll ∧ spanStart .readAll = some 3 := by decide

/-- A SETUID before the frame: the run ends with a frame that carries the new identifier. -/
theorem witness_FrameCarriesLastIdentifier_prefix :
    ∃ t out, Host.Core.run Sys2Proof.core 2 ((block false (ports 0 0 0)).setPort
      ([.command ⟨0x06, withSeq 0 [0xDE, 0xAD, 0xBE, 0xEF]⟩] ++ [.command ⟨0x13, ports 0 0 0⟩])) = .next t ∧
      t.resp = .command .ok out ∧
      [Transaction.command ⟨0x06, withSeq 0 [0xDE, 0xAD, 0xBE, 0xEF]⟩].foldl builderAfter
        (block false (ports 0 0 0)).builder = some (⟨0xDE, 0xAD, 0xBE, 0xEF⟩, false) ∧
      (out.drop 3).take 4 = [0xDE, 0xAD, 0xBE, 0xEF] := ⟨_, _, rfl, rfl, rfl, rfl⟩

/-- A failed construction before the frame: the sequence leaves no builder. -/
theorem witness_FrameCarriesLastIdentifier_no_builder :
    [Transaction.construct ⟨true, [1, 2, 3], true, true⟩].foldl builderAfter (block true (ports 0 0 0)).builder = none ∧
    ∃ t, Host.Core.run Sys2Proof.core 2 ((block true (ports 0 0 0)).setPort
      ([.construct ⟨true, [1, 2, 3], true, true⟩] ++ [.command ⟨0x13, ports 0 0 0⟩])) = .next t ∧
      t.resp = .command (.error .notConstructed) [] := ⟨rfl, _, rfl, rfl⟩

theorem witness_InstancesShareNothing : ∃ a b, (0 : Nat) ≠ 1 ∧
    ([reset1 ⟨false, [], true, false⟩, block true (ports 0 0 0)] : System)[0]? =
      ([reset1 ⟨false, [], true, false⟩, issue1 0x12 (ports 0 0 0)] : System)[0]? ∧
    stepInstance 0 [reset1 ⟨false, [], true, false⟩, block true (ports 0 0 0)] = .next a ∧
    stepInstance 0 [reset1 ⟨false, [], true, false⟩, issue1 0x12 (ports 0 0 0)] = .next b ∧ a ≠ b :=
  ⟨_, _, by decide, rfl, rfl, rfl, by decide⟩

theorem witness_InstancesShareNothing_no_such_instance : ∃ a,
    ([block true (ports 0 0 0)] : System)[1]? = ([] : System)[1]? ∧
    stepInstance 1 [block true (ports 0 0 0)] = .next a := ⟨_, rfl, rfl⟩

theorem witness_InstancesCommute : ∃ a b, stepInstance 0 [issue1 0x12 (ports 0 0 0), issue1 0x10 (ports 0 0 0)] = .next a ∧
    stepInstance 1 a = .next b := ⟨_, _, rfl, rfl⟩

theorem witness_AssemblerSpellings : ∃ c, asmCommand .addrb [.digit 0x41, .index 3] = some (.command c) := ⟨_, rfl⟩

theorem witness_StepKeepsAgreement :
    SameBuilder ((unbuilt (ports 0 0 0)).setPort [.command ⟨0x12, ports 0 0 0⟩])
      ({ unbuilt (ports 0 0 0) with uid := ⟨1, 2, 3, 4⟩ }.setPort [.command ⟨0x12, ports 0 0 0⟩]) ∧
    (∃ t, step ((unbuilt (ports 0 0 0)).setPort [.command ⟨0x12, ports 0 0 0⟩]) = .next t) ∧
    (∃ t, step ({ unbuilt (ports 0 0 0) with uid := ⟨1, 2, 3, 4⟩ }.setPort [.command ⟨0x12, ports 0 0 0⟩]) = .next t) ∧
    ((unbuilt (ports 0 0 0)).setPort [.command ⟨0x12, ports 0 0 0⟩]).port ≠ [] :=
  ⟨⟨rfl, rfl, rfl, fun h => nomatch h⟩, ⟨_, rfl⟩, ⟨_, rfl⟩, by decide⟩

/-- At the least SEQ_MAX the spec allows. -/
theorem witness_StepMovesBuilder : (bounded true (ports 0 0 0)).cfg.wf = true ∧
    ((bounded true (ports 0 0 0)).setPort [.command ⟨0x06, withSeq 0 [1, 2, 3, 4]⟩]).port =
      .command ⟨0x06, withSeq 0 [1, 2, 3, 4]⟩ :: [] := ⟨rfl, rfl⟩

end Sys2Proof.Tests
end

section
/-! SUPPORT. The scope family (spec 00_scope.md): what a step runs, that it leaves the parameters alone, how long OUT can
get, and the invariant of the block. -/

namespace Sys2Proof.Machine

/-! ### What a step runs (R3, R48, R233) -/

theorem step_of_command {s : State} {c : Command} {rest : List Transaction} {i : Instr}
    (hp : s.port = .command c :: rest) (hd : decode c.cmd = .command i) :
    step s = exec i ((s.setPort rest).setOps c.ops) := by
  simp only [step, hp, performCommand, hd]

theorem step_of_port_nil {s : State} (hp : s.port = []) : step s = .next s := by
  simp only [step, hp]

/-- Settles O45: the two equations of `step`, for a command that decodes and for an empty port. -/
theorem stepRunsDecodedCommand : Obligations.StepRunsDecodedCommand :=
  ⟨fun _ _ _ _ hp hd => step_of_command hp hd, fun _ hp => step_of_port_nil hp⟩

/-! ### The parameters (R8, R9) -/

theorem Ends.cfg_eq {i : Instr} {s t : State} (h : Ends i s t) : t.cfg = s.cfg := by
  cases h <;> simp

theorem construct_cfg {r : Construction} {s t : State} (h : construct r s = .next t) : t.cfg = s.cfg := by
  obtain ⟨u, -, rfl⟩ | ⟨-, rfl⟩ := construct_cases h <;> simp

theorem step_cfg {s t : State} (h : step s = .next t) : t.cfg = s.cfg := by
  obtain ⟨-, rfl⟩ | ⟨c, rest, i, -, -, he⟩ | ⟨c, rest, why, -, -, rfl⟩ | ⟨r, rest, -, hc⟩ := step_cases h
  · rfl
  · simpa using he.cfg_eq
  · simp
  · simpa using construct_cfg hc

/-- Settles O41: each of the ways a step can end leaves `cfg` as it was. -/
theorem parametersNeverChange : Obligations.ParametersNeverChange := fun _ _ h => step_cfg h

/-! ### The length of OUT (R9, R60, R71, R185) -/

theorem seqMax_ge_of_wf {c : Config} {m : Nat} (hw : c.wf = true) (hm : c.seqMax = some m) : 14 ≤ m := by
  simpa [Config.wf, hm] using hw

/-- A sequence that passed the second check is no longer than a bounded SEQ_MAX (R203). -/
theorem seqOperand_length_le {s : State} {l : List Byte} {m : Nat} (hf : seqTooLong s = false)
    (hl : seqOperand s.ops = some l) (hm : s.cfg.seqMax = some m) : l.length ≤ m := by
  simpa [seqTooLong, hl, exceedsSeqMax, hm] using hf

@[simp] theorem crcCompute_length (v : Variant) (d : List Byte) : (crcCompute v d).length = 2 := rfl

theorem appendIfConfigured_length_le (flag : Bool) (l : List Byte) :
    (appendIfConfigured flag l).length ≤ l.length + 2 := by
  rw [appendIfConfigured_length]
  split <;> omega

/-- The longest frame has 14 bytes and a trailer of 2 (R71). -/
theorem buildFrame_length_le (op : FrameOp) (x : FrameFields) (s : State) : (buildFrame op x s).length ≤ 16 := by
  have hpre : (preFrame s.cfg s.uid op x).length ≤ 14 := by
    rw [preFrame_length]
    cases op <;> decide
  have happ := appendIfConfigured_length_le s.appendCrc (preFrame s.cfg s.uid op x)
  unfold buildFrame
  omega

/-- The state a result answers drives at most `n` bytes on OUT. -/
def OutWithin (n : Nat) (q : Result) : Prop := ∀ t, q = .next t → (responseOut t.resp).length ≤ n

theorem outWithin_ret {n : Nat} {out : List Byte} {s : State} (h : out.length ≤ n) : OutWithin n (ret out s) := by
  intro t ht
  obtain rfl := ret_eq_next.mp ht
  simpa [responseOut] using h

theorem outWithin_raise {n : Nat} {e : ErrorCode} {s : State} : OutWithin n (raise e s) := by
  intro t ht
  obtain rfl := raise_eq_next.mp ht
  simp [responseOut]

theorem outWithin_refuse {n : Nat} {r : RefuseReason} {s : State} : OutWithin n (refuse r s) := by
  intro t ht
  obtain rfl := refuse_eq_next.mp ht
  simp [responseOut]

theorem outWithin_requireBuilt {n : Nat} {k : State → Result} {s : State} (h : OutWithin n (k s)) :
    OutWithin n (requireBuilt k s) := by
  cases hb : s.built with
  | true => rwa [requireBuilt_of_built hb]
  | false => rw [requireBuilt_of_not_built hb]; exact outWithin_raise

theorem outWithin_requireSeqFits {n : Nat} {k : State → Result} {s : State}
    (h : seqTooLong s = false → OutWithin n (k s)) : OutWithin n (requireSeqFits k s) := by
  cases hl : seqTooLong s with
  | true => rw [requireSeqFits_of_too_long hl]; exact outWithin_refuse
  | false => rw [requireSeqFits_of_fits hl]; exact h hl

theorem outWithin_crcCommand {n : Nat} {v : Option Variant} {s : State} (hn : 2 ≤ n) :
    OutWithin n (crcCommand v s) := by
  refine outWithin_requireSeqFits fun _ => ?_
  split
  · exact outWithin_ret hn
  · exact outWithin_raise

theorem outWithin_frameCommand {n : Nat} {op : FrameOp} {x : FrameFields} {s : State} (hn : 16 ≤ n) :
    OutWithin n (frameCommand op x s) :=
  outWithin_requireBuilt (outWithin_ret ((buildFrame_length_le op x s).trans hn))

theorem outWithin_payloadCommand {n : Nat} {op : FrameOp} {s : State} (hn : 16 ≤ n) :
    OutWithin n (payloadCommand op s) := by
  refine outWithin_requireBuilt (outWithin_requireSeqFits fun _ => ?_)
  split
  · exact outWithin_ret ((buildFrame_length_le _ _ s).trans hn)
  · exact outWithin_raise

/-- APPEND is the one command whose OUT grows with SEQ: the second check bounds it (R185, R203). -/
theorem outWithin_append {m : Nat} {s : State} (hm : s.cfg.seqMax = some m) : OutWithin (m + 2) (execAppend s) := by
  refine outWithin_requireBuilt (outWithin_requireSeqFits fun hf => ?_)
  split
  · rename_i l hl
    have hlen := seqOperand_length_le hf hl hm
    have happ := appendIfConfigured_length_le s.appendCrc l
    exact outWithin_ret (by omega)
  · split
    · exact outWithin_raise
    · exact outWithin_refuse

theorem outWithin_setuid {n : Nat} {s : State} : OutWithin n (execSetuid s) := by
  refine outWithin_requireBuilt (outWithin_requireSeqFits fun _ => ?_)
  split
  · exact outWithin_ret n.zero_le
  · exact outWithin_raise

theorem outWithin_addrb {n : Nat} {s : State} (hn : 1 ≤ n) : OutWithin n (execAddrb s) := by
  unfold execAddrb
  split
  · exact outWithin_refuse
  · split
    · exact outWithin_refuse
    · exact outWithin_ret hn

theorem outWithin_addrs {n : Nat} {s : State} (hn : 1 ≤ n) : OutWithin n (execAddrs s) := by
  unfold execAddrs
  split
  · exact outWithin_raise
  · exact outWithin_ret hn

theorem outWithin_addr8 {n : Nat} {s : State} (hn : 1 ≤ n) : OutWithin n (execAddr8 s) := by
  unfold execAddr8
  split
  · exact outWithin_raise
  · exact outWithin_ret hn

/-- With a legal bounded SEQ_MAX no command drives more than SEQ_MAX + 2 bytes on OUT. -/
theorem exec_outWithin {m : Nat} (i : Instr) {s : State} (hm : s.cfg.seqMax = some m) (h14 : 14 ≤ m) :
    OutWithin (m + 2) (exec i s) := by
  cases i with
  | crc => exact outWithin_crcCommand (v := none) (by omega)
  | crcA => exact outWithin_crcCommand (v := some .a) (by omega)
  | crcB => exact outWithin_crcCommand (v := some .b) (by omega)
  | append => exact outWithin_append hm
  | addrb => exact outWithin_addrb (by omega)
  | addrs => exact outWithin_addrs (by omega)
  | addr8 => exact outWithin_addr8 (by omega)
  | setuid => exact outWithin_setuid
  | req | wup | rid | rall | read | writee | writene | rseg | read8 => exact outWithin_frameCommand (by omega)
  | writee8 | writene8 => exact outWithin_payloadCommand (by omega)

/-! ### The invariant, by the kind of answer the block stands with -/

theorem blockInv_of_resp_ok {t : State} {out : List Byte} (hw : t.cfg.wf = true) (hr : t.resp = .command .ok out)
    (hlen : ∀ m, t.cfg.seqMax = some m → out.length ≤ m + 2) : BlockInv t where
  params := hw
  outOnlyOk _ _ h hst := by rw [hr] at h; cases h; exact absurd rfl hst
  refusedMarked _ _ h := by rw [hr] at h; cases h
  constructed _ h := by rw [hr] at h; cases h
  notConstructed _ h := by rw [hr] at h; cases h
  outFits m _ _ hm h := by rw [hr] at h; cases h; exact hlen m hm

theorem blockInv_of_resp_error {t : State} {e : ErrorCode} (hw : t.cfg.wf = true)
    (hr : t.resp = .command (.error e) []) (hb : e = .notConstructed → t.built = false) : BlockInv t where
  params := hw
  outOnlyOk _ _ h _ := by rw [hr] at h; cases h; rfl
  refusedMarked _ _ h := by rw [hr] at h; cases h
  constructed _ h := by rw [hr] at h; cases h
  notConstructed _ h := by rw [hr] at h; cases h; exact hb rfl
  outFits _ _ _ _ h := by rw [hr] at h; cases h; exact Nat.zero_le _

theorem blockInv_of_resp_refused {t : State} {r : RefuseReason} (hw : t.cfg.wf = true)
    (hr : t.resp = .command (.refused r) []) (hmark : t.refusedMark = true) : BlockInv t where
  params := hw
  outOnlyOk _ _ h _ := by rw [hr] at h; cases h; rfl
  refusedMarked _ _ _ := hmark
  constructed _ h := by rw [hr] at h; cases h
  notConstructed _ h := by rw [hr] at h; cases h
  outFits _ _ _ _ h := by rw [hr] at h; cases h; exact Nat.zero_le _

theorem blockInv_of_resp_construction {t : State} {st : Status} (hw : t.cfg.wf = true)
    (hr : t.resp = .construction st)
    (hst : (t.built = true ∧ st = .ok) ∨ (t.built = false ∧ st = .error .invalidIdentifier)) : BlockInv t where
  params := hw
  outOnlyOk _ _ h := by rw [hr] at h; cases h
  refusedMarked _ _ h := by rw [hr] at h; cases h
  constructed _ h := by rw [hr] at h; cases h; exact hst
  notConstructed _ h := by rw [hr] at h; cases h
  outFits _ _ _ _ h := by rw [hr] at h; cases h

/-- Legal parameters are all a command needs: the rest of the invariant is about its own answer. -/
theorem exec_blockInv {i : Instr} {s t : State} (h : exec i s = .next t) (hw : s.cfg.wf = true) : BlockInv t := by
  have hlen : ∀ m, s.cfg.seqMax = some m → (responseOut t.resp).length ≤ m + 2 :=
    fun m hm => exec_outWithin i hm (seqMax_ge_of_wf hw hm) t h
  cases exec_cases h with
  | returned out _ => exact blockInv_of_resp_ok hw rfl hlen
  | installed u _ _ _ _ => exact blockInv_of_resp_ok hw rfl hlen
  | raised e he => exact blockInv_of_resp_error hw rfl he
  | refused r => exact blockInv_of_resp_refused hw rfl rfl

theorem construct_blockInv {r : Construction} {s t : State} (h : construct r s = .next t) (hw : s.cfg.wf = true) :
    BlockInv t := by
  obtain ⟨u, -, rfl⟩ | ⟨-, rfl⟩ := construct_cases h
  · exact blockInv_of_resp_construction hw rfl (.inl ⟨rfl, rfl⟩)
  · exact blockInv_of_resp_construction hw rfl (.inr ⟨rfl, rfl⟩)

/-- Settles O47, by the cases of a step: each transaction answers anew, and its answer meets the invariant whatever the
answer before it was, as long as the parameters are legal. -/
theorem stepKeepsInvariant : Obligations.StepKeepsInvariant := by
  intro s t hinv h
  have hw : s.cfg.wf = true := hinv.params
  obtain ⟨-, rfl⟩ | ⟨c, rest, i, hp, hd, -⟩ | ⟨c, rest, why, -, -, rfl⟩ | ⟨r, rest, -, hc⟩ := step_cases h
  · exact hinv
  · rw [step_of_command hp hd] at h
    exact exec_blockInv h hw
  · exact blockInv_of_resp_error hw rfl nofun
  · exact construct_blockInv hc hw

end Sys2Proof.Machine
end

section
/-! SUPPORT. The state family (spec 10_state.md): the REFUSED mark, what reset holds, that nothing shows UID or APPEND_CRC
while BUILT = 0, and that the blocks of a system share no state. -/

namespace Sys2Proof.Machine

open Sys2Proof.Claims

/-! ### What a step runs, for each transaction (R3, R230) -/

theorem step_of_port_command {s : State} {c : Command} {rest : List Transaction} (hp : s.port = .command c :: rest) :
    step s = performCommand c.cmd ((s.setPort rest).setOps c.ops) := by
  simp only [step, hp]

theorem step_of_port_construct {s : State} {r : Construction} {rest : List Transaction}
    (hp : s.port = .construct r :: rest) : step s = construct r (s.setPort rest) := by
  simp only [step, hp]

theorem Ends.port_eq {i : Instr} {s t : State} (h : Ends i s t) : t.port = s.port := by
  cases h <;> simp

theorem construct_port {r : Construction} {s t : State} (h : construct r s = .next t) : t.port = s.port := by
  obtain ⟨u, -, rfl⟩ | ⟨-, rfl⟩ := construct_cases h <;> simp

/-- A step takes the oldest transaction off the port, if there is one (R48). -/
theorem step_port {s t : State} (h : step s = .next t) : t.port = s.port.tail := by
  obtain ⟨hp, rfl⟩ | ⟨c, rest, i, hp, -, he⟩ | ⟨c, rest, why, hp, -, rfl⟩ | ⟨r, rest, hp, hc⟩ := step_cases h
  · rw [hp, List.tail_nil]
  · simpa [hp] using he.port_eq
  · simp [hp]
  · simpa [hp] using construct_port hc

/-! ### Two blocks alike in all that can be observed (R23) -/

section Agreement
variable {s s' : State}

/-- Both results are next states, alike in all that can be observed, and they give the same answer. -/
def AnswerAlike (q q' : Result) : Prop :=
  ∃ t t', q = .next t ∧ q' = .next t' ∧ SameBuilder t t' ∧ t.resp = t'.resp

/-- Two blocks alike in all that can be observed, about to perform a command with the same operand signals. -/
structure SameInput (s s' : State) : Prop where
  builder : SameBuilder s s'
  ops : s.ops = s'.ops

theorem SameInput.cfg_eq (h : SameInput s s') : s.cfg = s'.cfg := h.builder.2.1

theorem SameInput.built_eq (h : SameInput s s') : s.built = s'.built := h.builder.2.2.1

theorem SameInput.uid_eq (h : SameInput s s') (hb : s.built = true) : s.uid = s'.uid :=
  (h.builder.2.2.2 hb).1

theorem SameInput.appendCrc_eq (h : SameInput s s') (hb : s.built = true) :
    s.appendCrc = s'.appendCrc :=
  (h.builder.2.2.2 hb).2

theorem SameInput.opa_eq (h : SameInput s s') : opa s = opa s' := by
  rw [opa, opa, h.ops]

theorem SameInput.opb_eq (h : SameInput s s') : opb s = opb s' := by
  rw [opb, opb, h.ops]

theorem sameBuilder_setUid (u : Uid) (h : SameBuilder s s') :
    SameBuilder (s.setUid u) (s'.setUid u) := by
  obtain ⟨hport, hcfg, hbuilt, hread⟩ := h
  exact ⟨hport, hcfg, hbuilt, fun hb => ⟨rfl, (hread hb).2⟩⟩

theorem sameBuilder_setPort (p : List Transaction) (h : SameBuilder s s') :
    SameBuilder (s.setPort p) (s'.setPort p) := by
  obtain ⟨-, hcfg, hbuilt, hread⟩ := h
  exact ⟨rfl, hcfg, hbuilt, hread⟩

/-- An accepted command takes its own operand signals (R50). -/
theorem sameInput_setOps (o : Operands) (h : SameBuilder s s') : SameInput (s.setOps o) (s'.setOps o) :=
  ⟨h, rfl⟩

/-! ### Each way a command can end, and each check before it, keeps the agreement -/

theorem answerAlike_ret {out : List Byte} (h : SameBuilder s s') :
    AnswerAlike (ret out s) (ret out s') :=
  ⟨_, _, rfl, rfl, h, rfl⟩

theorem answerAlike_raise {e : ErrorCode} (h : SameBuilder s s') :
    AnswerAlike (raise e s) (raise e s') :=
  ⟨_, _, rfl, rfl, h, rfl⟩

theorem answerAlike_refuse {r : RefuseReason} (h : SameBuilder s s') :
    AnswerAlike (refuse r s) (refuse r s') :=
  ⟨_, _, rfl, rfl, h, rfl⟩

/-- What follows the first check may read UID and APPEND_CRC: it runs only while BUILT = 1 (R202). -/
theorem answerAlike_requireBuilt {k k' : State → Result} (h : SameInput s s')
    (hk : s.built = true → AnswerAlike (k s) (k' s')) : AnswerAlike (requireBuilt k s) (requireBuilt k' s') := by
  cases hb : s.built with
  | true =>
    rw [requireBuilt_of_built hb, requireBuilt_of_built (h.built_eq.symm.trans hb)]
    exact hk hb
  | false =>
    rw [requireBuilt_of_not_built hb, requireBuilt_of_not_built (h.built_eq.symm.trans hb)]
    exact answerAlike_raise h.builder

theorem SameInput.seqTooLong_eq (h : SameInput s s') : seqTooLong s = seqTooLong s' := by
  simp only [seqTooLong, h.ops, h.cfg_eq]

theorem answerAlike_requireSeqFits {k : State → Result} (h : SameInput s s')
    (hk : AnswerAlike (k s) (k s')) : AnswerAlike (requireSeqFits k s) (requireSeqFits k s') := by
  cases hl : seqTooLong s with
  | true =>
    rw [requireSeqFits_of_too_long hl, requireSeqFits_of_too_long (h.seqTooLong_eq.symm.trans hl)]
    exact answerAlike_refuse h.builder
  | false =>
    rw [requireSeqFits_of_fits hl, requireSeqFits_of_fits (h.seqTooLong_eq.symm.trans hl)]
    exact hk

/-! ### The commands -/

theorem answerAlike_crcCommand {v : Option Variant} (h : SameInput s s') :
    AnswerAlike (crcCommand v s) (crcCommand v s') := by
  refine answerAlike_requireSeqFits h ?_
  rw [h.ops]
  split
  · exact answerAlike_ret h.builder
  · exact answerAlike_raise h.builder

theorem SameInput.buildFrame_eq {op : FrameOp} {x : FrameFields} (h : SameInput s s') (hb : s.built = true) :
    buildFrame op x s = buildFrame op x s' := by
  simp only [buildFrame, h.cfg_eq, h.uid_eq hb, h.appendCrc_eq hb]

theorem answerAlike_frameCommand {op : FrameOp} {x x' : FrameFields} (h : SameInput s s') (hx : x = x') :
    AnswerAlike (frameCommand op x s) (frameCommand op x' s') := by
  subst hx
  refine answerAlike_requireBuilt h fun hb => ?_
  rw [h.buildFrame_eq hb]
  exact answerAlike_ret h.builder

theorem answerAlike_payloadCommand {op : FrameOp} (h : SameInput s s') :
    AnswerAlike (payloadCommand op s) (payloadCommand op s') := by
  refine answerAlike_requireBuilt h fun hb => answerAlike_requireSeqFits h ?_
  rw [h.opa_eq, h.ops]
  split
  · rw [h.buildFrame_eq hb]
    exact answerAlike_ret h.builder
  · exact answerAlike_raise h.builder

theorem answerAlike_append (h : SameInput s s') : AnswerAlike (execAppend s) (execAppend s') := by
  refine answerAlike_requireBuilt h fun hb => answerAlike_requireSeqFits h ?_
  rw [h.ops, h.appendCrc_eq hb]
  split
  · exact answerAlike_ret h.builder
  · split
    · exact answerAlike_raise h.builder
    · exact answerAlike_refuse h.builder

theorem answerAlike_setuid (h : SameInput s s') : AnswerAlike (execSetuid s) (execSetuid s') := by
  refine answerAlike_requireBuilt h fun _ => answerAlike_requireSeqFits h ?_
  rw [h.ops]
  split
  · exact answerAlike_ret (sameBuilder_setUid _ h.builder)
  · exact answerAlike_raise h.builder

theorem answerAlike_addrb (h : SameInput s s') : AnswerAlike (execAddrb s) (execAddrb s') := by
  unfold execAddrb opa idx
  rw [h.ops]
  split
  · exact answerAlike_refuse h.builder
  · split
    · exact answerAlike_refuse h.builder
    · exact answerAlike_ret h.builder

theorem answerAlike_addrs (h : SameInput s s') : AnswerAlike (execAddrs s) (execAddrs s') := by
  unfold execAddrs idx
  rw [h.ops]
  split
  · exact answerAlike_raise h.builder
  · exact answerAlike_ret h.builder

theorem answerAlike_addr8 (h : SameInput s s') : AnswerAlike (execAddr8 s) (execAddr8 s') := by
  unfold execAddr8 idx
  rw [h.ops]
  split
  · exact answerAlike_raise h.builder
  · exact answerAlike_ret h.builder

theorem exec_answerAlike (i : Instr) (h : SameInput s s') : AnswerAlike (exec i s) (exec i s') := by
  cases i with
  | crc => exact answerAlike_crcCommand (v := none) h
  | crcA => exact answerAlike_crcCommand (v := some .a) h
  | crcB => exact answerAlike_crcCommand (v := some .b) h
  | append => exact answerAlike_append h
  | addrb => exact answerAlike_addrb h
  | addrs => exact answerAlike_addrs h
  | addr8 => exact answerAlike_addr8 h
  | setuid => exact answerAlike_setuid h
  | req | wup | rid | rall => exact answerAlike_frameCommand h rfl
  | read | rseg | read8 => exact answerAlike_frameCommand h (by rw [h.opa_eq])
  | writee | writene => exact answerAlike_frameCommand h (by rw [h.opa_eq, h.opb_eq])
  | writee8 | writene8 => exact answerAlike_payloadCommand h

theorem performCommand_answerAlike (w : Byte) (h : SameInput s s') :
    AnswerAlike (performCommand w s) (performCommand w s') := by
  unfold performCommand
  split
  · exact exec_answerAlike _ h
  · exact answerAlike_raise h.builder

/-- A construction reads nothing of the builder, and what it leaves in UID and APPEND_CRC when it fails is not observed
(R230, R31). -/
theorem construct_answerAlike (r : Construction) (h : SameBuilder s s') :
    AnswerAlike (construct r s) (construct r s') := by
  obtain ⟨hport, hcfg, -, -⟩ := h
  unfold construct
  split
  · exact ⟨_, _, rfl, rfl, ⟨hport, hcfg, rfl, fun _ => ⟨rfl, rfl⟩⟩, rfl⟩
  · exact ⟨_, _, rfl, rfl, ⟨hport, hcfg, rfl, nofun⟩, rfl⟩

/-! ### The step -/

theorem step_answerAlike (h : SameBuilder s s') (hp : s.port ≠ []) : AnswerAlike (step s) (step s') := by
  match hs : s.port with
  | [] => exact absurd hs hp
  | .command c :: rest =>
    rw [step_of_port_command hs, step_of_port_command (h.1.symm.trans hs)]
    exact performCommand_answerAlike c.cmd (sameInput_setOps c.ops (sameBuilder_setPort rest h))
  | .construct r :: rest =>
    rw [step_of_port_construct hs, step_of_port_construct (h.1.symm.trans hs)]
    exact construct_answerAlike r (sameBuilder_setPort rest h)

theorem transcript_of_step {n : Nat} {t : State} (h : step s = .next t) :
    transcript (n + 1) s = t.resp :: transcript n t := by
  simp only [transcript, h]

/-- The agreement, carried along a run by its step. -/
theorem transcript_eq_of_sameBuilder {n : Nat} (h : SameBuilder s s') (hn : n ≤ s.port.length) :
    transcript n s = transcript n s' := by
  induction n generalizing s s' with
  | zero => rfl
  | succ n ih =>
    have hp : s.port ≠ [] := List.ne_nil_of_length_pos (by omega)
    obtain ⟨t, t', ht, ht', hsame, hresp⟩ := step_answerAlike h hp
    have hlen : n ≤ t.port.length := by
      rw [step_port ht, List.length_tail]
      omega
    rw [transcript_of_step ht, transcript_of_step ht', hresp, ih hsame hlen]

end Agreement

/-- Settles O55: a command reads UID and APPEND_CRC only behind the check that BUILT = 1. -/
theorem stepKeepsAgreement : Obligations.StepKeepsAgreement := by
  intro s s' t t' h ht ht'
  by_cases hp : s.port = []
  · rw [step_of_port_nil hp] at ht
    rw [step_of_port_nil (h.1.symm.trans hp)] at ht'
    cases ht
    cases ht'
    exact ⟨h, fun hne => absurd hp hne⟩
  · obtain ⟨u, u', hu, hu', hsame, hresp⟩ := step_answerAlike h hp
    cases hu.symm.trans ht
    cases hu'.symm.trans ht'
    exact ⟨hsame, fun _ => hresp⟩

theorem construct_built_iff {r : Construction} {s t : State} (h : construct r s = .next t) :
    t.built = true ↔ t.resp = .construction .ok := by
  obtain ⟨u, -, rfl⟩ | ⟨-, rfl⟩ := construct_cases h <;> simp

/-- Settles O49: BUILT at power-up and after a construction, and the agreement of O55 along a run. -/
theorem unspecifiedBuilderNeverObserved : Obligations.UnspecifiedBuilderNeverObserved :=
  ⟨fun _ => rfl, fun _ _ _ _ hp h => construct_built_iff (step_of_port_construct hp ▸ h),
    fun _ _ _ h hn => transcript_eq_of_sameBuilder h hn⟩

/-! ### The REFUSED mark (R29) -/

/-- The mark of `t` is the mark of `s`, set if `t` stands with a refusal as its answer. -/
def MarkFollows (s t : State) : Prop :=
  t.refusedMark = true ↔ s.refusedMark = true ∨ ∃ r, t.resp = .command (.refused r) []

theorem Ends.markFollows {i : Instr} {s t : State} (h : Ends i s t) : MarkFollows s t := by
  unfold MarkFollows
  cases h <;> simp

theorem construct_markFollows {r : Construction} {s t : State} (h : construct r s = .next t) : MarkFollows s t := by
  unfold MarkFollows
  obtain ⟨u, -, rfl⟩ | ⟨-, rfl⟩ := construct_cases h <;> simp

theorem step_markFollows {s t : State} (h : step s = .next t) (hp : s.port ≠ []) : MarkFollows s t := by
  obtain ⟨hnil, -⟩ | ⟨c, rest, i, -, -, he⟩ | ⟨c, rest, why, -, -, rfl⟩ | ⟨r, rest, -, hc⟩ := step_cases h
  · exact absurd hnil hp
  · exact he.markFollows
  · simp [MarkFollows]
  · exact construct_markFollows (s := s.setPort rest) hc

/-- Settles O38, by the cases of a step: only a refused command writes the mark. -/
theorem refusedMarkIsSticky : Obligations.RefusedMarkIsSticky := by
  refine ⟨rfl, fun _ => rfl, fun _ _ h hp => step_markFollows h hp, fun s t h hp => ?_⟩
  rw [step_of_port_nil hp] at h
  cases h
  rfl

/-! ### Reset (R31, R230) -/

/-- Settles O31: the construction with both inputs omitted, performed at power-up, leaves `State.reset`. -/
theorem resetHoldsConstructionDefaults : Obligations.ResetHoldsConstructionDefaults :=
  ⟨rfl, rfl, rfl, rfl, rfl⟩

/-! ### Several blocks side by side (R30) -/

theorem stepInstance_of_none {k : Nat} {sys : System} (hk : sys[k]? = none) : stepInstance k sys = .next sys := by
  simp only [stepInstance, hk]

theorem stepInstance_of_step {k : Nat} {sys : System} {s t : State} (hk : sys[k]? = some s) (h : step s = .next t) :
    stepInstance k sys = .next (sys.set k t) := by
  simp only [stepInstance, hk, h]

/-- Everything a step of block `k` of a system can do: nothing, if there is no such block; else that block's own step. -/
theorem stepInstance_cases {k : Nat} {sys a : System} (h : stepInstance k sys = .next a) :
    (sys[k]? = none ∧ a = sys) ∨ ∃ s t, sys[k]? = some s ∧ step s = .next t ∧ a = sys.set k t := by
  unfold stepInstance at h
  split at h
  · rename_i hk
    cases h
    exact .inl ⟨hk, rfl⟩
  · rename_i s hk
    split at h
    · rename_i t ht
      cases h
      exact .inr ⟨s, t, hk, ht, rfl⟩
    · cases h
    · cases h

theorem stepInstance_frame {k j : Nat} {sys a : System} (h : stepInstance k sys = .next a) (hj : j ≠ k) :
    a[j]? = sys[j]? := by
  obtain ⟨-, rfl⟩ | ⟨s, t, -, -, rfl⟩ := stepInstance_cases h
  · rfl
  · exact List.getElem?_set_ne hj.symm

theorem stepInstance_local {k : Nat} {sys sys₂ a : System} (heq : sys[k]? = sys₂[k]?)
    (h : stepInstance k sys = .next a) : ∃ b, stepInstance k sys₂ = .next b ∧ a[k]? = b[k]? := by
  obtain ⟨hk, rfl⟩ | ⟨s, t, hk, ht, rfl⟩ := stepInstance_cases h
  · exact ⟨sys₂, stepInstance_of_none (heq ▸ hk), heq⟩
  · have hk₂ : sys₂[k]? = some s := heq ▸ hk
    refine ⟨_, stepInstance_of_step hk₂ ht, ?_⟩
    rw [List.getElem?_set_self', List.getElem?_set_self', heq]

theorem presentTo_frame {k j : Nat} {tx : Transaction} {sys : System} (hj : j ≠ k) :
    (presentTo k tx sys)[j]? = sys[j]? :=
  List.getElem?_modify_ne _ _ hj.symm

theorem presentTo_local {k : Nat} {tx : Transaction} {sys sys₂ : System} (heq : sys[k]? = sys₂[k]?) :
    (presentTo k tx sys)[k]? = (presentTo k tx sys₂)[k]? := by
  simp only [presentTo, List.getElem?_modify_eq, heq]

/-- Settles O52: one block is replaced in the list, by what its own state alone determines. -/
theorem instancesShareNothing : Obligations.InstancesShareNothing :=
  ⟨fun _ _ _ h _ hj => stepInstance_frame h hj, fun _ _ _ _ hj => presentTo_frame hj,
    fun _ _ _ _ heq h => stepInstance_local heq h, fun _ _ _ _ heq => presentTo_local heq⟩

end Sys2Proof.Machine
end

section
/-! SUPPORT. The memory family (spec 20_memory.md): in what order identifier and payload stand in a frame, which
operations write state, the builder after any sequence of transactions, and that steps of different blocks commute. -/

namespace Sys2Proof.Machine

open Sys2Proof.Claims

/-! ### Order in memory: what a span write leaves where (R44, R45) -/

/-- A span that fits replaces exactly the bytes at its offsets. -/
theorem writeSpan_eq_append {f bs : List Byte} {k : Nat} (h : k + bs.length ≤ f.length) :
    writeSpan f k bs = f.take k ++ (bs ++ f.drop (k + bs.length)) := by
  induction bs generalizing f k with
  | nil => simp [writeSpan]
  | cons b rest ih =>
    rw [List.length_cons] at h
    have hk : k < f.length := by omega
    have htake : (f.set k b).take (k + 1) = f.take k ++ [b] := by
      rw [List.take_succ_eq_append_getElem (by rwa [List.length_set]), List.take_set_of_le (Nat.le_refl k),
        List.getElem_set_self]
    have hdrop : (f.set k b).drop (k + 1 + rest.length) = f.drop (k + (rest.length + 1)) := by
      rw [List.drop_set_of_lt (by omega), Nat.add_right_comm, Nat.add_assoc]
    rw [writeSpan, ih (by rw [List.length_set]; omega), htake, hdrop, List.append_assoc, List.length_cons]
    rfl

/-- A span is read back as it was written. -/
theorem take_drop_writeSpan {f bs : List Byte} {k : Nat} (h : k + bs.length ≤ f.length) :
    ((writeSpan f k bs).drop k).take bs.length = bs := by
  have hk : (f.take k).length = k := List.length_take_of_le (by omega)
  rw [writeSpan_eq_append h, List.drop_left' hk, List.take_left]

theorem getElem?_writeSpan {f bs : List Byte} {k j : Nat} (h : k + bs.length ≤ f.length) (hj : j < bs.length) :
    (writeSpan f k bs)[k + j]? = bs[j]? := by
  rw [← List.getElem?_drop, ← List.getElem?_take_of_lt hj, take_drop_writeSpan h]

/-- A span leaves the bytes before it as they were. -/
theorem getElem?_writeSpan_of_lt {f bs : List Byte} {k j : Nat} (hj : j < k) :
    (writeSpan f k bs)[j]? = f[j]? := by
  induction bs generalizing f k with
  | nil => rfl
  | cons b rest ih => rw [writeSpan, ih (by omega), List.getElem?_set_ne (by omega)]

/-- The trailer stands behind the sequence, which stays as it was (R131). -/
theorem appendIfConfigured_isPrefix (flag : Bool) (l : List Byte) : l <+: appendIfConfigured flag l := by
  cases flag
  · exact ⟨[], List.append_nil l⟩
  · exact ⟨crcCompute .b l, rfl⟩

/-! ### The identifier and the payload of a frame (R44, R45, R69) -/

@[simp] theorem uidBytes_length (u : Uid) : (uidBytes u).length = 4 := rfl

theorem identOffset_frameFormat (op : FrameOp) : identOffset (frameFormat op) = spanStart op := by
  cases op <;> rfl

theorem spanStart_add_four_le {op : FrameOp} {p : Nat} (h : spanStart op = some p) :
    p + 4 ≤ preLength (frameFormat op) := by
  cases op <;> cases h <;> decide

theorem buildFrame_ident {op : FrameOp} {p : Nat} (x : FrameFields) (s : State) (hp : spanStart op = some p) :
    ((buildFrame op x s).drop p).take 4 = uidBytes s.uid := by
  have hfit := spanStart_add_four_le hp
  obtain ⟨m, hm⟩ := appendIfConfigured_isPrefix s.appendCrc (preFrame s.cfg s.uid op x)
  have hlen := preFrame_length s.cfg s.uid op x
  rw [buildFrame, ← hm, List.drop_append_of_le_length (by omega),
    List.take_append_of_le_length (by rw [List.length_drop]; omega)]
  simp only [preFrame, writeIdent, identOffset_frameFormat, hp]
  exact take_drop_writeSpan (bs := uidBytes s.uid) (by simpa using hfit)

/-- The payload lies before the identifier, which leaves it as it was written. -/
theorem buildFrame_payload {op : FrameOp} {a : Option Byte} {q : List Byte} {k : Nat} (s : State)
    (hf : frameFormat op = .fu14) (hq : q.length = 8) (hk : k < 8) :
    (buildFrame op ⟨a, none, some q⟩ s)[2 + k]? = q[k]? := by
  obtain ⟨m, hm⟩ := appendIfConfigured_isPrefix s.appendCrc (preFrame s.cfg s.uid op ⟨a, none, some q⟩)
  have hlen := preFrame_length s.cfg s.uid op ⟨a, none, some q⟩
  have h14 : preLength (frameFormat op) = 14 := by rw [hf]; rfl
  rw [buildFrame, ← hm, List.getElem?_append_left (by omega)]
  simp only [preFrame, writeIdent, hf, identOffset]
  rw [getElem?_writeSpan_of_lt (by omega)]
  exact getElem?_writeSpan (by simp [hq, preLength]) (by omega)

/-! ### What a frame command answers with OK -/

/-- A result that answers OK only with bytes of which `P` holds. -/
def OkOut (P : List Byte → Prop) (q : Result) : Prop := ∀ t out, q = .next t → t.resp = .command .ok out → P out

section OkOut
variable {P : List Byte → Prop} {s : State}

theorem okOut_ret {out : List Byte} (h : P out) : OkOut P (ret out s) := by
  rintro t out' ht hr
  obtain rfl := ret_eq_next.mp ht
  cases hr
  exact h

theorem okOut_raise {e : ErrorCode} : OkOut P (raise e s) := by
  rintro t out' ht hr
  obtain rfl := raise_eq_next.mp ht
  cases hr

theorem okOut_refuse {r : RefuseReason} : OkOut P (refuse r s) := by
  rintro t out' ht hr
  obtain rfl := refuse_eq_next.mp ht
  cases hr

theorem okOut_requireBuilt {k : State → Result} (h : OkOut P (k s)) : OkOut P (requireBuilt k s) := by
  cases hb : s.built with
  | true => rwa [requireBuilt_of_built hb]
  | false => rw [requireBuilt_of_not_built hb]; exact okOut_raise

theorem okOut_requireSeqFits {k : State → Result} (h : OkOut P (k s)) : OkOut P (requireSeqFits k s) := by
  cases hl : seqTooLong s with
  | true => rw [requireSeqFits_of_too_long hl]; exact okOut_refuse
  | false => rwa [requireSeqFits_of_fits hl]

theorem okOut_frameCommand {op : FrameOp} {x : FrameFields} (h : P (buildFrame op x s)) :
    OkOut P (frameCommand op x s) :=
  okOut_requireBuilt (okOut_ret h)

theorem okOut_payloadCommand {op : FrameOp}
    (h : ∀ q, HasSeq s q → q.length = 8 → P (buildFrame op ⟨some (opa s), none, some q⟩ s)) :
    OkOut P (payloadCommand op s) := by
  refine okOut_requireBuilt (okOut_requireSeqFits ?_)
  split
  · rename_i q hq
    obtain ⟨hseq, hlen⟩ := payload8_eq_some.mp hq
    exact okOut_ret (h q (seqOperand_eq_some.mp hseq) hlen)
  · exact okOut_raise

end OkOut

/-- A frame command answers OK with nothing but its operation's frame (R132). -/
theorem okOut_exec_frame {i : Instr} {op : FrameOp} (s : State) (h : frameOpOf i = some op) :
    OkOut (fun out => ∃ x, out = buildFrame op x s) (exec i s) := by
  cases i with
  | crc | crcA | crcB | append | addrb | addrs | addr8 | setuid => cases h
  | req | wup | rid | rall | read | writee | writene | rseg | read8 => cases h; exact okOut_frameCommand ⟨_, rfl⟩
  | writee8 | writene8 => cases h; exact okOut_payloadCommand fun _ _ _ => ⟨_, rfl⟩

theorem okOut_payloadCommand_seq {op : FrameOp} {k : Nat} (s : State) (hf : frameFormat op = .fu14) (hk : k < 8) :
    OkOut (fun out => out[2 + k]? = s.ops.seq[k]?) (payloadCommand op s) :=
  okOut_payloadCommand fun q hq hlen => by rw [buildFrame_payload s hf hlen hk, hq.2]

/-- Settles O17: a frame command answers its frame, and a frame holds its spans as they were written. -/
theorem identifierAndPayloadInOrder : Obligations.IdentifierAndPayloadInOrder := by
  constructor
  · intro i op p s t out hop hp h hr
    obtain ⟨x, rfl⟩ := okOut_exec_frame s hop t out h hr
    exact buildFrame_ident x s hp
  · rintro i s t out k (rfl | rfl) h hr hk
    · exact okOut_payloadCommand_seq s rfl hk t out h hr
    · exact okOut_payloadCommand_seq s rfl hk t out h hr

/-! ### What a command writes (R49) -/

theorem Ends.frame {i : Instr} {s t : State} (h : Ends i s t) (hi : i ≠ .setuid) :
    t = { s with resp := t.resp, refusedMark := t.refusedMark } := by
  cases h with
  | returned | raised | refused => rfl
  | installed u hset => exact absurd hset hi

theorem Ends.frame_uid {i : Instr} {s t : State} (h : Ends i s t) :
    t = { s with uid := t.uid, resp := t.resp, refusedMark := t.refusedMark } := by
  cases h <;> rfl

/-! ### SETUID, on every operand (R150, R206) -/

section Setuid
variable {s : State}

theorem execSetuid_of_not_built (hb : s.built = false) : execSetuid s = raise .notConstructed s :=
  requireBuilt_of_not_built hb

theorem execSetuid_of_too_long (hb : s.built = true) (hl : seqTooLong s = true) :
    execSetuid s = refuse .seqTooLong s := by
  rw [execSetuid, requireBuilt_of_built hb, requireSeqFits_of_too_long hl]

theorem execSetuid_of_uid {u : Uid} (hb : s.built = true) (hl : seqTooLong s = false)
    (hu : (seqOperand s.ops).bind uidOfBytes = some u) : execSetuid s = ret [] (s.setUid u) := by
  rw [execSetuid, requireBuilt_of_built hb, requireSeqFits_of_fits hl, hu]

theorem execSetuid_of_no_uid (hb : s.built = true) (hl : seqTooLong s = false)
    (hu : (seqOperand s.ops).bind uidOfBytes = none) : execSetuid s = raise .invalidIdentifier s := by
  rw [execSetuid, requireBuilt_of_built hb, requireSeqFits_of_fits hl, hu]

/-- SETUID reads BUILT, SEQ_MAX and SEQ, and writes none of them. -/
theorem execSetuid_repeat {t : State} (h : execSetuid s = .next t) : execSetuid t = .next t := by
  cases hb : s.built with
  | false =>
    rw [execSetuid_of_not_built hb] at h
    cases h
    exact execSetuid_of_not_built hb
  | true =>
    cases hl : seqTooLong s with
    | true =>
      rw [execSetuid_of_too_long hb hl] at h
      cases h
      exact execSetuid_of_too_long hb hl
    | false =>
      cases hu : (seqOperand s.ops).bind uidOfBytes with
      | some u =>
        rw [execSetuid_of_uid hb hl hu] at h
        cases h
        exact execSetuid_of_uid hb hl hu
      | none =>
        rw [execSetuid_of_no_uid hb hl hu] at h
        cases h
        exact execSetuid_of_no_uid hb hl hu

end Setuid

/-! ### A command run again in the state it left (R49) -/

/-- The mark follows the answer, so the same answer given again leaves it as it is. -/
theorem refusedMark_eq_of_resp_eq {s t t' : State} (h : MarkFollows s t) (h' : MarkFollows t t')
    (hresp : t'.resp = t.resp) : t'.refusedMark = t.refusedMark := by
  unfold MarkFollows at h h'
  rw [hresp] at h'
  exact Bool.eq_iff_iff.mpr ⟨fun hm => (h'.mp hm).elim id fun hr => h.mpr (.inr hr), fun hm => h'.mpr (.inl hm)⟩

/-- A command other than SETUID leaves all that it reads, so it gives the same answer again. -/
theorem exec_repeat {i : Instr} {s t : State} (hi : i ≠ .setuid) (h : exec i s = .next t) : exec i t = .next t := by
  have he : Ends i s t := exec_cases h
  have hsame : SameInput s t := by
    rw [he.frame hi]
    exact ⟨⟨rfl, rfl, rfl, fun _ => ⟨rfl, rfl⟩⟩, rfl⟩
  obtain ⟨_, t', ht, ht', -, hresp⟩ := exec_answerAlike i hsame
  cases h.symm.trans ht
  have he' : Ends i t t' := exec_cases ht'
  have hmark := refusedMark_eq_of_resp_eq he.markFollows he'.markFollows hresp.symm
  rw [ht', he'.frame hi, ← hresp, hmark]

/-- Settles O39: the frame is read off the ways a command can end; a command run again finds what it read before. -/
theorem onlySetuidAndConstructionWrite : Obligations.OnlySetuidAndConstructionWrite := by
  refine ⟨fun i s t hi h => (exec_cases h).frame hi, fun s t h => (exec_cases h).frame_uid, fun i s t h => ?_⟩
  by_cases hi : i = .setuid
  · subst hi
    exact execSetuid_repeat h
  · exact exec_repeat hi h

/-! ### What the specification of the builder says, in the terms of the machine (R150, R230) -/

theorem builderAfter_construct (b : Option (Uid × Bool)) (r : Construction) :
    builderAfter b (.construct r) = (constructionUid r).map fun u => (u, constructionAppend r) := by
  obtain ⟨valid, l, _, _⟩ := r
  cases valid with
  | false => rfl
  | true =>
    match l with
    | [] | [_] | [_, _] | [_, _, _] | [_, _, _, _] | _ :: _ :: _ :: _ :: _ :: _ => rfl

theorem builderAfter_of_cmd_ne {c : Command} (b : Option (Uid × Bool)) (hc : c.cmd ≠ 0x06) :
    builderAfter b (.command c) = b :=
  if_neg fun h => hc h.1

/-- A builder whose identifier is replaced, if there is a builder and an identifier to install (R150). -/
def withIdentifier (b : Option (Uid × Bool)) : Option Uid → Option (Uid × Bool)
  | some u => b.map fun p => (u, p.2)
  | none => b

theorem builderAfter_setuid {c : Command} (b : Option (Uid × Bool)) (hc : c.cmd = 0x06) :
    builderAfter b (.command c) = withIdentifier b ((seqOperand c.ops).bind uidOfBytes) := by
  obtain ⟨cmd, opa, opb, idx, valid, l⟩ := c
  obtain rfl : cmd = 0x06 := hc
  cases valid with
  | false => rfl
  | true =>
    match l with
    | [] | [_] | [_, _] | [_, _, _] | [_, _, _, _] | _ :: _ :: _ :: _ :: _ :: _ => rfl

/-! ### The builder a step leaves (R48, R49, R150, R230, R232) -/

theorem State.builder_of_built {s : State} (hb : s.built = true) : s.builder = some (s.uid, s.appendCrc) :=
  if_pos hb

theorem State.builder_of_not_built {s : State} (hb : s.built = false) : s.builder = none := by
  simp [State.builder, hb]

@[simp] theorem State.setResp_builder (r : Response) (s : State) : (s.setResp r).builder = s.builder := rfl

@[simp] theorem State.setRefused_builder (s : State) : s.setRefused.builder = s.builder := rfl

theorem State.setUid_builder (u : Uid) (s : State) :
    (s.setUid u).builder = s.builder.map fun p => (u, p.2) := by
  cases hb : s.built with
  | true => rw [State.builder_of_built hb, State.builder_of_built (s := s.setUid u) hb]; rfl
  | false => rw [State.builder_of_not_built hb, State.builder_of_not_built (s := s.setUid u) hb]; rfl

theorem construct_builder {r : Construction} {s t : State} (h : construct r s = .next t) :
    t.builder = (constructionUid r).map fun u => (u, constructionAppend r) := by
  obtain ⟨u, hu, rfl⟩ | ⟨hu, rfl⟩ := construct_cases h
  · rw [hu]; rfl
  · rw [hu]; rfl

theorem Ends.builder_eq {i : Instr} {s t : State} (h : Ends i s t) (hi : i ≠ .setuid) : t.builder = s.builder := by
  rw [h.frame hi]; rfl

/-- A legal SEQ_MAX refuses no sequence that could be an identifier (R9, R21). -/
theorem seqTooLong_of_uid {s : State} {u : Uid} (hw : s.cfg.wf = true)
    (hu : (seqOperand s.ops).bind uidOfBytes = some u) : seqTooLong s = false := by
  obtain ⟨l, hl, hlu⟩ := Option.bind_eq_some_iff.mp hu
  obtain ⟨-, hseq⟩ := seqOperand_eq_some.mp hl
  rw [← Bool.not_eq_true, seqTooLong_iff]
  rintro ⟨-, m, hm, hlt⟩
  have h14 : 14 ≤ m := seqMax_ge_of_wf hw hm
  rw [hseq, uidOfBytes_eq_some.mp hlu, uidBytes_length] at hlt
  omega

theorem execSetuid_builder {s t : State} (hw : s.cfg.wf = true) (h : execSetuid s = .next t) :
    t.builder = withIdentifier s.builder ((seqOperand s.ops).bind uidOfBytes) := by
  cases hu : (seqOperand s.ops).bind uidOfBytes with
  | some u =>
    cases hb : s.built with
    | true =>
      rw [execSetuid_of_uid hb (seqTooLong_of_uid hw hu) hu] at h
      obtain rfl := ret_eq_next.mp h
      exact s.setUid_builder u
    | false =>
      rw [execSetuid_of_not_built hb] at h
      obtain rfl := raise_eq_next.mp h
      rw [State.setResp_builder, State.builder_of_not_built hb]
      rfl
  | none =>
    cases exec_cases (i := .setuid) h with
    | returned _ hi => exact absurd rfl hi
    | installed u _ _ hv hseq =>
      rw [seqOperand_eq_some.mpr ⟨hv, hseq⟩, Option.bind_some, uidOfBytes_eq_some.mpr rfl] at hu
      cases hu
    | raised | refused => rfl

theorem decode_eq_setuid_iff : ∀ w : Byte, decode w = .command .setuid ↔ w = 0x06 := by decide

theorem performCommand_builder {c : Command} {s t : State} (hw : s.cfg.wf = true) (ho : s.ops = c.ops)
    (h : performCommand c.cmd s = .next t) : t.builder = builderAfter s.builder (.command c) := by
  by_cases hc : c.cmd = 0x06
  · rw [performCommand, (decode_eq_setuid_iff _).mpr hc] at h
    rw [builderAfter_setuid _ hc, ← ho]
    exact execSetuid_builder hw h
  · rw [builderAfter_of_cmd_ne _ hc]
    unfold performCommand at h
    split at h
    · rename_i i hd
      have hi : i ≠ .setuid := by
        rintro rfl
        exact hc ((decode_eq_setuid_iff _).mp hd)
      exact (exec_cases h).builder_eq hi
    · obtain rfl := raise_eq_next.mp h
      rfl

theorem step_next (s : State) : ∃ t, step s = .next t := by
  match hp : s.port with
  | [] => exact ⟨s, step_of_port_nil hp⟩
  | .command c :: rest =>
    rw [step_of_port_command hp]
    unfold performCommand
    split
    · obtain ⟨t, ht, -⟩ := exec_ends _ _
      exact ⟨t, ht⟩
    · exact ⟨_, rfl⟩
  | .construct r :: rest =>
    rw [step_of_port_construct hp]
    exact construct_next r _

theorem step_builder {s t : State} {tx : Transaction} {rest : List Transaction} (hw : s.cfg.wf = true)
    (hp : s.port = tx :: rest) (h : step s = .next t) : t.builder = builderAfter s.builder tx := by
  cases tx with
  | command c =>
    rw [step_of_port_command hp] at h
    exact performCommand_builder (s := (s.setPort rest).setOps c.ops) hw rfl h
  | construct r =>
    rw [step_of_port_construct hp] at h
    rw [builderAfter_construct]
    exact construct_builder h

/-- Settles O56: a step always answers, takes the oldest transaction, and moves the builder as specified. -/
theorem stepMovesBuilder : Obligations.StepMovesBuilder := by
  intro s tx rest hw hp
  obtain ⟨t, h⟩ := step_next s
  exact ⟨t, h, by rw [step_port h, hp, List.tail_cons], step_builder hw hp h⟩

/-! ### The builder a run leaves -/

theorem run_succ_of_step {n : Nat} {s t : State} (h : step s = .next t) :
    Host.Core.run Sys2Proof.core (n + 1) s = Host.Core.run Sys2Proof.core n t := by
  have hcore : Sys2Proof.core.step s = .next t := h
  simp only [Host.Core.run, hcore]

/-- The block works off the transactions `txs`, whatever waits behind them, and its builder is their fold. -/
theorem run_builder {txs rest : List Transaction} {s : State} (hw : s.cfg.wf = true) (hp : s.port = txs ++ rest) :
    ∃ t : State, Host.Core.run Sys2Proof.core txs.length s = .next t ∧ t.port = rest ∧ t.cfg = s.cfg ∧
      t.builder = txs.foldl builderAfter s.builder := by
  induction txs generalizing s with
  | nil => exact ⟨s, rfl, hp, rfl, rfl⟩
  | cons tx txs ih =>
    obtain ⟨t, h, hport, hbuilder⟩ := stepMovesBuilder s tx (txs ++ rest) hw hp
    have hcfg : t.cfg = s.cfg := step_cfg h
    obtain ⟨t', hrun, hport', hcfg', hbuilder'⟩ := ih (hcfg ▸ hw) hport
    refine ⟨t', (run_succ_of_step h).trans hrun, hport', hcfg'.trans hcfg, ?_⟩
    rw [hbuilder', hbuilder, List.foldl_cons]

/-- Settles O50: the run over the whole port. -/
theorem builderFollowsTransactions : Obligations.BuilderFollowsTransactions := by
  intro s hw
  obtain ⟨t, hrun, -, -, hbuilder⟩ := run_builder (rest := []) hw (List.append_nil s.port).symm
  exact ⟨t, hrun, hbuilder⟩

/-! ### Steps of different blocks (R52) -/

/-- Settles O53: neither step touches what the other one reads, so the two replacements commute. -/
theorem instancesCommute : Obligations.InstancesCommute := by
  intro j k sys a b hjk ha hb
  have hk : a[k]? = sys[k]? := stepInstance_frame ha hjk.symm
  obtain ⟨hbk, rfl⟩ | ⟨u, v, hu, huv, rfl⟩ := stepInstance_cases hb
  · exact ⟨sys, stepInstance_of_none (hk ▸ hbk), ha⟩
  · refine ⟨sys.set k v, stepInstance_of_step (hk ▸ hu) huv, ?_⟩
    have hj : (sys.set k v)[j]? = sys[j]? := List.getElem?_set_ne hjk.symm
    obtain ⟨hsj, rfl⟩ | ⟨s, t, hs, hst, rfl⟩ := stepInstance_cases ha
    · exact stepInstance_of_none (hj.trans hsj)
    · rw [stepInstance_of_step (hj.trans hs) hst, List.set_comm _ _ hjk.symm]

end Sys2Proof.Machine
end

section
/-! SUPPORT. The encoding family (spec 30_encoding.md): the command word and its decoder, the length and the trailer of
a frame, the formats of the address bytes, the ports a command ignores, and the assembler spelling. -/

namespace Sys2Proof.Machine

open Sys2Proof.Claims

/-! ### The command word (R61 to R63, R66, R67) -/

theorem decode_encode (i : Instr) : decode (encode i) = .command i := by
  cases i <;> rfl

/-- RSV, VAR and OP side by side are the word (R61). -/
theorem cmdFields_append (w : Byte) : BitVec.ofBool (cmdRsv w) ++ cmdVar w ++ cmdOp w = w := by
  have hrsv : BitVec.ofBool (cmdRsv w) = w.extractLsb' 7 1 := by
    ext k hk
    obtain rfl : k = 0 := by omega
    simp [cmdRsv]
  rw [hrsv, cmdVar, cmdOp, BitVec.extractLsb'_append_extractLsb'_eq_extractLsb' (show 7 = 5 + 2 from rfl),
    BitVec.extractLsb'_append_extractLsb'_eq_extractLsb' (show 5 = 0 + 5 from rfl)]
  exact BitVec.extractLsb'_eq_self

/-- What `decodeCrc` reads a command from is that command's variant (R63). -/
theorem codes_of_decodeCrc {var : BitVec 2} {i : Instr} (h : decodeCrc var = .command i) :
    opCode i = 0x01 ∧ varCode i = var := by
  unfold decodeCrc at h
  split at h <;> cases h <;> exact ⟨rfl, BitVec.eq_of_toNat_eq (Eq.symm ‹_›)⟩

/-- What `decodeOp` reads a command from is that command's OP, and its variant is 00 (R62, R66). -/
theorem codes_of_decodeOp {op : BitVec 5} {i : Instr} (h : decodeOp op = .command i) :
    opCode i = op ∧ varCode i = 0b00 := by
  unfold decodeOp at h
  split at h <;> cases h <;> exact ⟨BitVec.eq_of_toNat_eq (Eq.symm ‹_›), rfl⟩

/-- The decoder's three fields are those of the command it reads (R67). -/
theorem fields_of_decode {w : Byte} {i : Instr} (h : decode w = .command i) :
    cmdRsv w = false ∧ opCode i = cmdOp w ∧ varCode i = cmdVar w := by
  unfold decode at h
  split at h
  · cases h
  · rename_i hrsv
    refine ⟨Bool.eq_false_iff.mpr hrsv, ?_⟩
    split at h
    · rename_i hop
      obtain ⟨ho, hv⟩ := codes_of_decodeCrc h
      exact ⟨ho.trans hop.symm, hv⟩
    · split at h
      · cases h
      · rename_i hvar
        obtain ⟨ho, hv⟩ := codes_of_decodeOp h
        exact ⟨ho, hv.trans (not_not.mp hvar).symm⟩

theorem encode_of_decode {w : Byte} {i : Instr} (h : decode w = .command i) : encode i = w := by
  obtain ⟨hrsv, hop, hvar⟩ := fields_of_decode h
  calc encode i = BitVec.ofBool (cmdRsv w) ++ cmdVar w ++ cmdOp w := by rw [encode, hop, hvar, hrsv]; rfl
    _ = w := cmdFields_append w

/-- Settles O43: one way by the commands; the other way because the word is put together from the fields decoded. -/
theorem decodeEncodeRoundTrip : Obligations.DecodeEncodeRoundTrip :=
  ⟨decode_encode, fun _ _ => encode_of_decode⟩

/-- Settles O44: the words written out are the words of the commands. -/
theorem commandWordsDecode : Obligations.CommandWordsDecode :=
  ⟨decode_encode .crc, decode_encode .crcA, decode_encode .crcB, decode_encode .append, decode_encode .addrb,
    decode_encode .setuid, decode_encode .rid, decode_encode .writene8, .reservedVariant, rfl⟩

theorem legal_encode (i : Instr) : CmdWord.legal (encode i) = true := by
  cases i <;> decide

/-- No legal word is missing in the decoder: the 256 words, one by one. -/
theorem decodes_of_legal : ∀ w : Byte, CmdWord.legal w = true → ∃ i ∈ allInstrs, decode w = .command i := by
  decide

/-- R66's list, written in numbers, and R67's decoder, written in bit fields, accept the same words. -/
theorem legal_iff_decodes (w : Byte) : CmdWord.legal w = true ↔ ∃ i, decode w = .command i := by
  constructor
  · intro h
    obtain ⟨i, -, hi⟩ := decodes_of_legal w h
    exact ⟨i, hi⟩
  · rintro ⟨i, hi⟩
    rw [← encode_of_decode hi]
    exact legal_encode i

theorem legal_count : ((List.range 256).filter fun n => CmdWord.legal (BitVec.ofNat 8 n)).length = 19 := by
  decide

theorem step_of_illegal {s : State} {c : Command} {rest : List Transaction} (hp : s.port = .command c :: rest)
    (hl : CmdWord.legal c.cmd = false) : step s = fails { s with port := rest, ops := c.ops } .illegalCommand := by
  rw [step_of_port_command hp, performCommand]
  split
  · rename_i i hd
    rw [(legal_iff_decodes c.cmd).mpr ⟨i, hd⟩] at hl
    cases hl
  · rfl

/-- Settles O42: the legal words are those the decoder accepts, so a step answers every other word alike. -/
theorem illegalWordsAreThoseListed : Obligations.IllegalWordsAreThoseListed :=
  ⟨legal_iff_decodes, legal_count, fun _ _ _ => step_of_illegal⟩

/-! ### The checksum as a trailer (R70, R103) -/

theorem crcAcc_eq_foldl (seed : Word16) (d : List Byte) : crcAcc seed d = d.foldl crcStep seed := by
  induction d generalizing seed with
  | nil => rfl
  | cons b rest ih => rw [crcAcc, ih, List.foldl_cons]

theorem lo8_eq_setWidth (v : Word16) : lo8 v = v.setWidth 8 :=
  (BitVec.setWidth_eq_extractLsb' (by decide)).symm

theorem hi8_eq_setWidth (v : Word16) : hi8 v = (v >>> 8).setWidth 8 := by
  ext k
  simp [hi8]

/-- The checksum stands low byte first (R42, R103). -/
theorem crcCompute_eq_littleEndian (v : Variant) (d : List Byte) :
    crcCompute v d = littleEndian (crcFinal v d) := by
  rw [crcCompute, littleEndian, lo8_eq_setWidth, hi8_eq_setWidth]

/-- What APPEND_CRC = 1 adds is the trailer (R70, R131). -/
theorem appendIfConfigured_eq_append_trailer (flag : Bool) (l : List Byte) :
    appendIfConfigured flag l = l ++ trailer flag l := by
  cases flag with
  | false => exact (List.append_nil l).symm
  | true =>
    show l ++ crcCompute .b l = l ++ littleEndian (~~~ l.foldl crcStep 0xFFFF)
    rw [crcCompute_eq_littleEndian, ← crcAcc_eq_foldl]
    rfl

/-! ### The length and the trailer of a frame (R70, R71) -/

theorem preLength_frameFormat (op : FrameOp) : preLength (frameFormat op) = frameLength op := by
  cases op <;> rfl

theorem preFrame_length_eq_frameLength (c : Config) (u : Uid) (op : FrameOp) (x : FrameFields) :
    (preFrame c u op x).length = frameLength op := by
  rw [preFrame_length, preLength_frameFormat]

theorem buildFrame_length (op : FrameOp) (x : FrameFields) (s : State) :
    (buildFrame op x s).length = frameLength op + 2 * (if s.appendCrc then 1 else 0) := by
  rw [buildFrame, appendIfConfigured_length, preFrame_length_eq_frameLength]
  cases s.appendCrc <;> rfl

theorem buildFrame_drop (op : FrameOp) (x : FrameFields) (s : State) :
    (buildFrame op x s).drop (frameLength op) =
      trailer s.appendCrc ((buildFrame op x s).take (frameLength op)) := by
  rw [buildFrame, appendIfConfigured_eq_append_trailer, ← preFrame_length_eq_frameLength s.cfg s.uid op x,
    List.drop_left, List.take_left]

/-- Settles O16: what a frame command answers is its frame, and a frame has the table's length. -/
theorem frameLengthsFollowTable : Obligations.FrameLengthsFollowTable := by
  intro i op s t out hop h hr
  obtain ⟨x, rfl⟩ := okOut_exec_frame s hop t out h hr
  exact buildFrame_length op x s

/-- Settles O18: a frame is its first L bytes and their trailer. -/
theorem trailerCoversWholePreChecksumFrame : Obligations.TrailerCoversWholePreChecksumFrame := by
  intro i op s t out hop h hr
  obtain ⟨x, rfl⟩ := okOut_exec_frame s hop t out h hr
  exact buildFrame_drop op x s

/-! ### A sequence that carries its own checksum (95_test_vectors.md L2-2) -/

theorem lo8_xor (v w : Word16) : lo8 (v ^^^ w) = lo8 v ^^^ lo8 w := by
  ext k; simp [lo8]

theorem hi8_xor (v w : Word16) : hi8 (v ^^^ w) = hi8 v ^^^ hi8 w := by
  ext k; simp [hi8]

theorem lo8_ushiftRight_eight (v : Word16) : lo8 (v >>> 8) = hi8 v := by
  ext k; simp [lo8, hi8]

theorem ushiftRight_eight_eight (v : Word16) : v >>> 8 >>> 8 = 0#16 := by
  rw [← BitVec.shiftRight_add]
  exact BitVec.ushiftRight_eq_zero (by decide)

/-- The step reads the low byte of the accumulator only in its sum with the data byte (R100). -/
theorem crcStep_eq_ushiftRight_xor (acc : Word16) (b : Byte) :
    crcStep acc b = acc >>> 8 ^^^ crcStep 0#16 (b ^^^ lo8 acc) := by
  have hlo : lo8 0#16 = 0#8 := rfl
  simp only [crcStep, hlo, BitVec.xor_zero, BitVec.zero_ushiftRight, BitVec.zero_xor, BitVec.xor_assoc]

/-- Two steps over the bytes of `acc ^^^ m`, low byte first, cancel the accumulator `acc`. -/
theorem crcStep_crcStep_own_bytes (acc m : Word16) :
    crcStep (crcStep acc (lo8 (acc ^^^ m))) (hi8 (acc ^^^ m)) = crcStep (crcStep 0#16 (lo8 m)) (hi8 m) := by
  have hfirst : crcStep acc (lo8 (acc ^^^ m)) = acc >>> 8 ^^^ crcStep 0#16 (lo8 m) := by
    rw [crcStep_eq_ushiftRight_xor, lo8_xor, BitVec.xor_comm (lo8 acc), BitVec.xor_assoc, BitVec.xor_self,
      BitVec.xor_zero]
  have hshift : (acc >>> 8 ^^^ crcStep 0#16 (lo8 m)) >>> 8 = crcStep 0#16 (lo8 m) >>> 8 := by
    rw [BitVec.ushiftRight_xor_distrib, ushiftRight_eight_eight, BitVec.zero_xor]
  have hbyte : hi8 (acc ^^^ m) ^^^ lo8 (acc >>> 8 ^^^ crcStep 0#16 (lo8 m)) = hi8 m ^^^ lo8 (crcStep 0#16 (lo8 m)) := by
    rw [hi8_xor, lo8_xor, lo8_ushiftRight_eight, BitVec.xor_comm (hi8 acc), BitVec.xor_assoc,
      ← BitVec.xor_assoc (hi8 acc), BitVec.xor_self, BitVec.zero_xor]
  rw [hfirst, crcStep_eq_ushiftRight_xor (_ ^^^ _), hshift, hbyte, ← crcStep_eq_ushiftRight_xor]

/-- Whatever the data, its Variant-B checksum leaves one constant in the accumulator. -/
theorem crcAcc_append_crcCompute_b (d : List Byte) : crcAcc 0xFFFF (d ++ crcCompute .b d) = 0xF0B8 := by
  have hfinal : crcFinal .b d = crcAcc 0xFFFF d ^^^ 0xFFFF := (BitVec.xor_allOnes ..).symm
  rw [crcAcc_append, crcCompute, hfinal]
  exact crcStep_crcStep_own_bytes (crcAcc 0xFFFF d) 0xFFFF

theorem crcCompute_b_append_self (d : List Byte) : crcCompute .b (d ++ crcCompute .b d) = [0x47, 0x0F] := by
  have hfinal : crcFinal .b (d ++ crcCompute .b d) = ~~~ 0xF0B8 := congrArg (~~~ ·) (crcAcc_append_crcCompute_b d)
  rw [crcCompute, hfinal]
  rfl

theorem seqTooLong_of_seqFits {s : State} (h : SeqFits s) : seqTooLong s = false := by
  rw [← Bool.not_eq_true, seqTooLong_iff]
  rintro ⟨hv, m, hm, hlt⟩
  exact absurd (h hv m hm) (by omega)

theorem exec_crcB_of_hasSeq {s : State} {d : List Byte} (hd : HasSeq s d) (hf : SeqFits s) :
    exec .crcB s = answers s (crcCompute .b d) := by
  show crcCommand (some .b) s = _
  rw [crcCommand, requireSeqFits_of_fits (seqTooLong_of_seqFits hf), seqOperand_eq_some.mpr hd]
  rfl

theorem buildFrame_of_appendCrc {op : FrameOp} {x : FrameFields} {s : State} (h : s.appendCrc = true) :
    buildFrame op x s = preFrame s.cfg s.uid op x ++ crcCompute .b (preFrame s.cfg s.uid op x) := by
  rw [buildFrame, h]
  rfl

/-- Settles O19: the frame is a sequence followed by its own checksum, and its checksum is a constant. -/
theorem frameWithTrailerPassesResidueCheck : Obligations.FrameWithTrailerPassesResidueCheck := by
  intro i op s t out hop hflag h hr s' hseq hfits
  obtain ⟨x, rfl⟩ := okOut_exec_frame s hop t out h hr
  rw [exec_crcB_of_hasSeq hseq hfits, buildFrame_of_appendCrc hflag, crcCompute_b_append_self]

/-! ### The operands of an address (R65, R180) -/

theorem digitValue_le {c : Byte} {d : Nat} (h : digitValue c = some d) : d ≤ 15 := by
  unfold digitValue at h
  split at h
  · cases h
    omega
  · split at h
    · cases h
      omega
    · cases h

theorem indexIn_eq_some {hi n : Nat} {i : Int} : indexIn hi i = some n ↔ i = n ∧ n ≤ hi := by
  unfold indexIn
  split
  · simp only [Option.some.injEq]
    omega
  · simp only [reduceCtorEq, false_iff]
    omega

/-- An index in range is its 32 bits read without a sign (R65). -/
theorem toNat_of_indexIn {s : State} {hi n : Nat} (h : indexIn hi (idx s) = some n) :
    n = s.ops.idx.toNat ∧ s.ops.idx.toNat ≤ hi := by
  obtain ⟨hn, hle⟩ := indexIn_eq_some.mp h
  have hsigned : s.ops.idx.toInt = n := hn
  have hcond := s.ops.idx.toInt_eq_toNat_cond
  have hlt := s.ops.idx.isLt
  split at hcond <;> omega

/-! ### What an address helper answers with OK (R181 to R183) -/

theorem okOut_addrb (s : State) :
    OkOut (fun out => ∃ d, digitValue s.ops.opa = some d ∧ s.ops.idx.toNat ≤ 7 ∧
      out = [byteAddress d s.ops.idx.toNat]) (execAddrb s) := by
  unfold execAddrb
  split
  · exact okOut_refuse
  · rename_i d hd
    split
    · exact okOut_refuse
    · rename_i n hn
      obtain ⟨rfl, hle⟩ := toNat_of_indexIn hn
      exact okOut_ret ⟨d, hd, hle, rfl⟩

theorem okOut_addrs (s : State) :
    OkOut (fun out => s.ops.idx.toNat ≤ 3 ∧ out = [segmentAddress s.ops.idx.toNat]) (execAddrs s) := by
  unfold execAddrs
  split
  · exact okOut_raise
  · rename_i n hn
    obtain ⟨rfl, hle⟩ := toNat_of_indexIn hn
    exact okOut_ret ⟨hle, rfl⟩

theorem okOut_addr8 (s : State) :
    OkOut (fun out => s.ops.idx.toNat ≤ 0x3F ∧ out = [blockAddress s.ops.idx.toNat]) (execAddr8 s) := by
  unfold execAddr8
  split
  · exact okOut_raise
  · rename_i n hn
    obtain ⟨rfl, hle⟩ := toNat_of_indexIn hn
    exact okOut_ret ⟨hle, rfl⟩

/-! ### The formats of the three address bytes (R72) -/

theorem byteAddress_toNat {d n : Nat} (hd : d ≤ 15) (hn : n ≤ 7) : (byteAddress d n).toNat = 8 * d + n := by
  rw [byteAddress, BitVec.toNat_ofNat, Nat.shiftLeft_eq]
  omega

theorem segmentAddress_toNat {n : Nat} (hn : n ≤ 3) : (segmentAddress n).toNat = 32 * n := by
  rw [segmentAddress, BitVec.toNat_ofNat, Nat.shiftLeft_eq]
  omega

theorem blockAddress_toNat {n : Nat} (hn : n ≤ 0x3F) : (blockAddress n).toNat = n := by
  rw [blockAddress, BitVec.toNat_ofNat]
  omega

theorem getLsbD_seven_of_lt {a : Byte} (h : a.toNat < 128) : a.getLsbD 7 = false :=
  Nat.testBit_lt_two_pow h

/-- The byte address is 0, the digit and the index side by side. -/
theorem byteAddress_format {d : Nat} {i : Index} (hd : d ≤ 15) (hi : i.toNat ≤ 7) :
    (byteAddress d i.toNat).getLsbD 7 = false ∧ ((byteAddress d i.toNat).extractLsb' 3 4).toNat = d ∧
      (byteAddress d i.toNat).extractLsb' 0 3 = i.extractLsb' 0 3 ∧ (byteAddress d i.toNat).toNat ≤ 0x7F := by
  have ha := byteAddress_toNat hd hi
  refine ⟨getLsbD_seven_of_lt (by omega), ?_, BitVec.eq_of_toNat_eq ?_, by omega⟩
  · rw [BitVec.extractLsb'_toNat, ha]
    omega
  · rw [BitVec.extractLsb'_toNat, BitVec.extractLsb'_toNat, ha]
    omega

/-- The segment address is 0, the index and five zeros side by side. -/
theorem segmentAddress_format {i : Index} (hi : i.toNat ≤ 3) :
    (segmentAddress i.toNat).extractLsb' 5 2 = i.extractLsb' 0 2 ∧ (segmentAddress i.toNat).getLsbD 7 = false ∧
      (segmentAddress i.toNat).extractLsb' 0 5 = 0 := by
  have ha := segmentAddress_toNat hi
  refine ⟨BitVec.eq_of_toNat_eq ?_, getLsbD_seven_of_lt (by omega), BitVec.eq_of_toNat_eq ?_⟩
  · rw [BitVec.extractLsb'_toNat, BitVec.extractLsb'_toNat, ha]
    omega
  · rw [BitVec.extractLsb'_toNat, ha]
    show (32 * i.toNat) >>> 0 % 2 ^ 5 = 0
    omega

/-- The block-8 address is two zeros and the index side by side. -/
theorem blockAddress_format {i : Index} (hi : i.toNat ≤ 0x3F) :
    (blockAddress i.toNat).extractLsb' 0 6 = i.extractLsb' 0 6 ∧ (blockAddress i.toNat).extractLsb' 6 2 = 0 := by
  have ha := blockAddress_toNat hi
  refine ⟨BitVec.eq_of_toNat_eq ?_, BitVec.eq_of_toNat_eq ?_⟩
  · rw [BitVec.extractLsb'_toNat, BitVec.extractLsb'_toNat, ha]
  · rw [BitVec.extractLsb'_toNat, ha]
    show i.toNat >>> 6 % 2 ^ 2 = 0
    omega

/-! ### The address byte of a frame (R69, R72) -/

/-- The identifier lies behind the address byte. -/
theorem getElem?_one_writeIdent (f : List Byte) (op : FrameOp) (u : Uid) :
    (writeIdent f (frameFormat op) u)[1]? = f[1]? := by
  unfold writeIdent
  split
  · rfl
  · rename_i q hq
    have hbehind : 1 < q := by cases op <;> cases hq <;> decide
    exact getElem?_writeSpan_of_lt hbehind

theorem getElem?_one_writeSpanField (f : List Byte) (bs : Option (List Byte)) :
    (writeSpanField f 2 bs)[1]? = f[1]? := by
  cases bs with
  | none => rfl
  | some bs => exact getElem?_writeSpan_of_lt (by decide)

theorem getElem?_one_writeField (f : List Byte) (b : Option Byte) : (writeField f 2 b)[1]? = f[1]? := by
  cases b with
  | none => rfl
  | some b => exact List.getElem?_set_ne (by decide)

theorem preFrame_addr (c : Config) (u : Uid) {op : FrameOp} {x : FrameFields} {a : Byte} (ha : x.addr = some a)
    (hlen : 1 < frameLength op) : (preFrame c u op x)[1]? = some a := by
  rw [preFrame, getElem?_one_writeIdent, getElem?_one_writeSpanField, getElem?_one_writeField, ha]
  exact List.getElem?_set_self (by rwa [List.length_set, zeros_length, preLength_frameFormat])

theorem buildFrame_addr (s : State) {op : FrameOp} {x : FrameFields} {a : Byte} (ha : x.addr = some a)
    (hlen : 1 < frameLength op) : (buildFrame op x s)[1]? = some a := by
  have hpre := preFrame_length_eq_frameLength s.cfg s.uid op x
  rw [buildFrame, appendIfConfigured_eq_append_trailer, List.getElem?_append_left (by omega)]
  exact preFrame_addr s.cfg s.uid ha hlen

/-- The commands that put OPA in a frame (R69) put it at offset 1, as it is. -/
theorem okOut_exec_addr {i : Instr} (s : State)
    (h : i ∈ [Instr.read, .writee, .writene, .rseg, .read8, .writee8, .writene8]) :
    OkOut (fun out => out[1]? = some s.ops.opa) (exec i s) := by
  cases i with
  | crc | crcA | crcB | append | addrb | addrs | addr8 | setuid | req | wup | rid | rall => simp at h
  | read | writee | writene | rseg | read8 => exact okOut_frameCommand (buildFrame_addr s rfl (by decide))
  | writee8 | writene8 => exact okOut_payloadCommand fun _ _ _ => buildFrame_addr s rfl (by decide)

/-- Settles O26: an address helper answers one byte, whose fields are its operands; a frame command writes OPA at
offset 1 and nothing over it. -/
theorem addressByteFormats : Obligations.AddressByteFormats := by
  refine ⟨fun s t d a hd h hr => ?_, fun s t a h hr => ?_, fun s t a h hr => ?_,
    fun i s t out hi h hr => okOut_exec_addr s hi t out h hr⟩
  · obtain ⟨d', hd', hi, ha⟩ := okOut_addrb s t [a] h hr
    cases ha
    cases hd.symm.trans hd'
    exact byteAddress_format (digitValue_le hd) hi
  · obtain ⟨hi, ha⟩ := okOut_addrs s t [a] h hr
    cases ha
    exact segmentAddress_format hi
  · obtain ⟨hi, ha⟩ := okOut_addr8 s t [a] h hr
    cases ha
    exact blockAddress_format hi

/-! ### Operand signals replaced by others (R64) -/

section OtherPorts
variable {s : State} {o : Operands}

@[simp] theorem opa_setOps : opa (s.setOps o) = o.opa := rfl

@[simp] theorem opb_setOps : opb (s.setOps o) = o.opb := rfl

@[simp] theorem idx_setOps : idx (s.setOps o) = o.idx.toInt := rfl

/-- Both results are next states, and the second is the first with the operand signals `o`. -/
def AlikeWithPorts (o : Operands) (q q' : Result) : Prop := ∃ t, q = .next t ∧ q' = .next (t.setOps o)

theorem alikeWithPorts_ret {out : List Byte} : AlikeWithPorts o (ret out s) (ret out (s.setOps o)) := ⟨_, rfl, rfl⟩

theorem alikeWithPorts_raise {e : ErrorCode} : AlikeWithPorts o (raise e s) (raise e (s.setOps o)) := ⟨_, rfl, rfl⟩

theorem alikeWithPorts_refuse {r : RefuseReason} : AlikeWithPorts o (refuse r s) (refuse r (s.setOps o)) :=
  ⟨_, rfl, rfl⟩

theorem alikeWithPorts_requireBuilt {k k' : State → Result} (h : AlikeWithPorts o (k s) (k' (s.setOps o))) :
    AlikeWithPorts o (requireBuilt k s) (requireBuilt k' (s.setOps o)) := by
  cases hb : s.built with
  | true => rwa [requireBuilt_of_built hb, requireBuilt_of_built (s := s.setOps o) hb]
  | false =>
    rw [requireBuilt_of_not_built hb, requireBuilt_of_not_built (s := s.setOps o) hb]
    exact alikeWithPorts_raise

theorem seqTooLong_setOps (hq : seqOperand o = seqOperand s.ops) : seqTooLong (s.setOps o) = seqTooLong s := by
  simp only [seqTooLong, State.setOps_ops, State.setOps_cfg, hq]

theorem alikeWithPorts_requireSeqFits {k : State → Result} (hq : seqOperand o = seqOperand s.ops)
    (h : AlikeWithPorts o (k s) (k (s.setOps o))) :
    AlikeWithPorts o (requireSeqFits k s) (requireSeqFits k (s.setOps o)) := by
  have hsame := seqTooLong_setOps hq
  cases hl : seqTooLong s with
  | true =>
    rw [requireSeqFits_of_too_long hl, requireSeqFits_of_too_long (hsame.trans hl)]
    exact alikeWithPorts_refuse
  | false =>
    rwa [requireSeqFits_of_fits hl, requireSeqFits_of_fits (hsame.trans hl)]

theorem alikeWithPorts_crcCommand {v : Option Variant} (hq : seqOperand o = seqOperand s.ops) :
    AlikeWithPorts o (crcCommand v s) (crcCommand v (s.setOps o)) := by
  refine alikeWithPorts_requireSeqFits hq ?_
  rw [State.setOps_ops, hq]
  split
  · exact alikeWithPorts_ret
  · exact alikeWithPorts_raise

theorem alikeWithPorts_append (hq : seqOperand o = seqOperand s.ops) :
    AlikeWithPorts o (execAppend s) (execAppend (s.setOps o)) := by
  refine alikeWithPorts_requireBuilt (alikeWithPorts_requireSeqFits hq ?_)
  rw [State.setOps_ops, State.setOps_appendCrc, hq]
  split
  · exact alikeWithPorts_ret
  · split
    · exact alikeWithPorts_raise
    · exact alikeWithPorts_refuse

theorem alikeWithPorts_setuid (hq : seqOperand o = seqOperand s.ops) :
    AlikeWithPorts o (execSetuid s) (execSetuid (s.setOps o)) := by
  refine alikeWithPorts_requireBuilt (alikeWithPorts_requireSeqFits hq ?_)
  rw [State.setOps_ops, hq]
  split
  · exact ⟨_, rfl, rfl⟩
  · exact alikeWithPorts_raise

/-- A frame is built from the fields, the parameters and the builder alone (R130). -/
theorem alikeWithPorts_frameCommand {op : FrameOp} {x x' : FrameFields} (hx : x' = x) :
    AlikeWithPorts o (frameCommand op x s) (frameCommand op x' (s.setOps o)) := by
  subst hx
  exact alikeWithPorts_requireBuilt alikeWithPorts_ret

theorem alikeWithPorts_payloadCommand {op : FrameOp} (ha : o.opa = opa s) (hq : seqOperand o = seqOperand s.ops) :
    AlikeWithPorts o (payloadCommand op s) (payloadCommand op (s.setOps o)) := by
  refine alikeWithPorts_requireBuilt (alikeWithPorts_requireSeqFits hq ?_)
  rw [State.setOps_ops, hq, opa_setOps, ha]
  split
  · exact alikeWithPorts_ret
  · exact alikeWithPorts_raise

theorem alikeWithPorts_addrb (ha : o.opa = opa s) (hi : o.idx.toInt = idx s) :
    AlikeWithPorts o (execAddrb s) (execAddrb (s.setOps o)) := by
  unfold execAddrb
  rw [opa_setOps, idx_setOps, ha, hi]
  split
  · exact alikeWithPorts_refuse
  · split
    · exact alikeWithPorts_refuse
    · exact alikeWithPorts_ret

theorem alikeWithPorts_addrs (hi : o.idx.toInt = idx s) : AlikeWithPorts o (execAddrs s) (execAddrs (s.setOps o)) := by
  unfold execAddrs
  rw [idx_setOps, hi]
  split
  · exact alikeWithPorts_raise
  · exact alikeWithPorts_ret

theorem alikeWithPorts_addr8 (hi : o.idx.toInt = idx s) : AlikeWithPorts o (execAddr8 s) (execAddr8 (s.setOps o)) := by
  unfold execAddr8
  rw [idx_setOps, hi]
  split
  · exact alikeWithPorts_raise
  · exact alikeWithPorts_ret

/-- While SEQ_VALID = 0 the bytes on SEQ are no operand (R60). -/
theorem seqOperand_eq_of_agree {o' : Operands} (hv : o.seqValid = o'.seqValid)
    (hs : o.seqValid = true → o.seq = o'.seq) : seqOperand o' = seqOperand o := by
  cases hb : o.seqValid with
  | true => rw [seqOperand_eq_some.mpr ⟨hb, rfl⟩, seqOperand_eq_some.mpr ⟨hv.symm.trans hb, (hs hb).symm⟩]
  | false => rw [seqOperand_eq_none.mpr hb, seqOperand_eq_none.mpr (hv.symm.trans hb)]

/-- Each command reads no port but those R64 names for it. -/
theorem exec_alikeWithPorts {i : Instr} (h : AgreeOnUsed i s.ops o) :
    AlikeWithPorts o (exec i s) (exec i (s.setOps o)) := by
  obtain ⟨hopa, hopb, hidx, hseq⟩ := h
  have ha : i ∈ opaCommands → o.opa = opa s := fun hm => (hopa hm).symm
  have hb : i ∈ opbCommands → o.opb = opb s := fun hm => (hopb hm).symm
  have hi : i ∈ idxCommands → o.idx.toInt = idx s := fun hm => congrArg BitVec.toInt (hidx hm).symm
  have hq : i ∈ seqCommands → seqOperand o = seqOperand s.ops := fun hm =>
    seqOperand_eq_of_agree (hseq hm).1 (hseq hm).2
  cases i with
  | crc => exact alikeWithPorts_crcCommand (v := none) (hq (by decide))
  | crcA => exact alikeWithPorts_crcCommand (v := some .a) (hq (by decide))
  | crcB => exact alikeWithPorts_crcCommand (v := some .b) (hq (by decide))
  | append => exact alikeWithPorts_append (hq (by decide))
  | setuid => exact alikeWithPorts_setuid (hq (by decide))
  | addrb => exact alikeWithPorts_addrb (ha (by decide)) (hi (by decide))
  | addrs => exact alikeWithPorts_addrs (hi (by decide))
  | addr8 => exact alikeWithPorts_addr8 (hi (by decide))
  | req | wup | rid | rall => exact alikeWithPorts_frameCommand rfl
  | read | rseg | read8 => exact alikeWithPorts_frameCommand (by rw [opa_setOps, ha (by decide)])
  | writee | writene =>
    exact alikeWithPorts_frameCommand (by rw [opa_setOps, opb_setOps, ha (by decide), hb (by decide)])
  | writee8 | writene8 => exact alikeWithPorts_payloadCommand (ha (by decide)) (hq (by decide))

end OtherPorts

/-- Settles O40: a command's result is the same up to the operand signals themselves, which no command writes. -/
theorem ignoredPortsHaveNoEffect : Obligations.IgnoredPortsHaveNoEffect := by
  intro i s t o hagree h
  obtain ⟨t', ht, ht'⟩ := exec_alikeWithPorts hagree
  cases h.symm.trans ht
  exact ht'

/-! ### The assembler spelling (R73) -/

theorem cmd_of_asmCommand {i : Instr} {args : List AsmArg} {c : Command} (h : asmCommand i args = some (.command c)) :
    c.cmd = encode i := by
  obtain ⟨o, -, ho⟩ := Option.map_eq_some_iff.mp h
  cases ho
  rfl

theorem decode_of_asmCommand {i : Instr} {args : List AsmArg} {c : Command}
    (h : asmCommand i args = some (.command c)) : decode c.cmd = .command i := by
  rw [cmd_of_asmCommand h, decode_encode]

theorem instrOfSpelling_spelling (i : Instr) : instrOfSpelling (spelling i).toList = some i := by
  cases i <;> rfl

/-- Settles O54: a command's line carries that command's own word, the spellings are read back, and the literal lines
run through the assembler. -/
theorem assemblerSpellings : Obligations.AssemblerSpellings := by
  refine ⟨fun _ _ _ => decode_of_asmCommand, instrOfSpelling_spelling, ?_⟩
  and_intros <;> rfl

end Sys2Proof.Machine
end

section
/-! SUPPORT. The checksum family (spec 40_checksum.md): the forms of the step, a checksum as a fold of it, the sequence
that carries its own checksum, and what the checksum commands answer. -/

namespace Sys2Proof.Machine

open Sys2Proof.Claims

/-! ### The step is linear (R101) -/

theorem crcStep_xor (acc acc' : Word16) (b b' : Byte) :
    crcStep (acc ^^^ acc') (b ^^^ b') = crcStep acc b ^^^ crcStep acc' b' := by
  simp only [crcStep, lo8_xor, BitVec.shiftLeft_xor_distrib, BitVec.ushiftRight_xor_distrib, BitVec.zeroExtend,
    BitVec.setWidth_xor]
  ac_rfl

/-- Settles O3: the step is made of XOR, shifts and zero extension, each linear. -/
theorem crcStepIsLinear : Obligations.CrcStepIsLinear := ⟨rfl, crcStep_xor⟩

/-! ### The per-bit form (R101) -/

/-- The sixteen bits one by one: each is the same XOR of bits on both sides, up to the order of its terms. -/
theorem crcStep_eq_crcStepBits (acc : Word16) (b : Byte) : crcStep acc b = crcStepBits acc b := by
  have hcomm : Std.Commutative Bool.xor := ⟨Bool.xor_comm⟩
  apply BitVec.eq_of_getLsbD_eq
  intro k hk
  simp only [crcStep, crcStepBits, lo8, BitVec.getLsbD_ofBoolListLE]
  interval_cases k <;> simp [-Bool.bne_assoc] <;> ac_rfl

/-- Settles O1: the two forms agree bit by bit. -/
theorem crcStepIsPerBitForm : Obligations.CrcStepIsPerBitForm := crcStep_eq_crcStepBits

/-! ### The bit-serial form (R102) -/

theorem serialShift_eq_xor (t : Word16) :
    serialShift t = t >>> 1 ^^^ (if t.getLsbD 0 then 0x8408 else 0) := by
  unfold serialShift
  split
  · rfl
  · exact BitVec.xor_zero.symm

/-- One shift is linear: bit 0, which chooses whether the polynomial is added, is. -/
theorem serialShift_xor (t u : Word16) : serialShift (t ^^^ u) = serialShift t ^^^ serialShift u := by
  have hpoly : ∀ p q : Bool, (if p ^^ q then (0x8408 : Word16) else 0) =
      (if p then 0x8408 else 0) ^^^ (if q then 0x8408 else 0) := by decide
  simp only [serialShift_eq_xor, BitVec.ushiftRight_xor_distrib, BitVec.getLsbD_xor, hpoly]
  ac_rfl

theorem serialShifts_xor (n : Nat) (t u : Word16) :
    serialShifts n (t ^^^ u) = serialShifts n t ^^^ serialShifts n u := by
  induction n generalizing t u with
  | zero => rfl
  | succ n ih => rw [serialShifts, serialShift_xor, ih]; rfl

/-- While bit 0 is 0 no shift adds the polynomial, so low bits that are all 0 are only shifted out. -/
theorem serialShifts_of_low_bits_zero {n : Nat} {t : Word16} (h : ∀ k < n, t.getLsbD k = false) :
    serialShifts n t = t >>> n := by
  induction n generalizing t with
  | zero => exact (BitVec.ushiftRight_zero t).symm
  | succ n ih =>
    have hshift : serialShift t = t >>> 1 := by
      rw [serialShift, h 0 (Nat.succ_pos n), if_neg Bool.false_ne_true]
    have hlow : ∀ k < n, (t >>> 1).getLsbD k = false := fun k hk => by
      rw [BitVec.getLsbD_ushiftRight, Nat.add_comm]
      exact h (k + 1) (Nat.succ_lt_succ hk)
    rw [serialShifts, hshift, ih hlow, ← BitVec.shiftRight_add, Nat.add_comm]

/-- From an accumulator of 0: the 256 bytes, one by one. -/
theorem crcStep_zero_eq_serialShifts : ∀ b : Byte, crcStep 0 b = serialShifts 8 (b.setWidth 16) := by
  decide

/-- The high byte of the accumulator only moves down, in both forms; what is left is the step of one byte from 0. -/
theorem crcStep_eq_serialShifts (acc : Word16) (b : Byte) :
    crcStep acc b = serialShifts 8 (acc ^^^ b.setWidth 16) := by
  have hsplit : acc ^^^ b.setWidth 16 = (acc ^^^ (lo8 acc).setWidth 16) ^^^ (b ^^^ lo8 acc).setWidth 16 := by
    rw [BitVec.setWidth_xor, BitVec.xor_comm (b.setWidth 16), BitVec.xor_assoc,
      ← BitVec.xor_assoc _ _ (b.setWidth 16), BitVec.xor_self, BitVec.zero_xor]
  have hlow : ∀ k < 8, (acc ^^^ (lo8 acc).setWidth 16).getLsbD k = false := fun k hk => by
    have hk16 : k < 16 := by omega
    simp [lo8, hk, hk16]
  have hhigh : (acc ^^^ (lo8 acc).setWidth 16) >>> 8 = acc >>> 8 := by
    ext k
    simp
  rw [hsplit, serialShifts_xor, serialShifts_of_low_bits_zero hlow, hhigh, ← crcStep_zero_eq_serialShifts]
  exact crcStep_eq_ushiftRight_xor acc b

/-- Settles O2: linearity brings the equality down to single bytes; the polynomial's bits are read off. -/
theorem crcStepIsBitSerialForm : Obligations.CrcStepIsBitSerialForm :=
  ⟨crcStep_eq_serialShifts, fun _ => rfl, by decide⟩

/-! ### A checksum as a fold (R103, R104) -/

theorem crcFinal_a (d : List Byte) : crcFinal .a d = crcAcc 0x6363 d := rfl

theorem crcFinal_b (d : List Byte) : crcFinal .b d = ~~~ crcAcc 0xFFFF d := rfl

theorem crcCompute_a_eq_foldl (d : List Byte) : crcCompute .a d = littleEndian (d.foldl crcStep 0x6363) := by
  rw [crcCompute_eq_littleEndian, crcFinal_a, crcAcc_eq_foldl]

theorem crcCompute_b_eq_foldl (d : List Byte) : crcCompute .b d = littleEndian (~~~ d.foldl crcStep 0xFFFF) := by
  rw [crcCompute_eq_littleEndian, crcFinal_b, crcAcc_eq_foldl]

/-- Settles O4: the accumulator's recursion is the fold, and a checksum is the final accumulator's two bytes. -/
theorem checksumFoldsStepInOrder : Obligations.ChecksumFoldsStepInOrder :=
  ⟨crcAcc_eq_foldl, crcCompute_a_eq_foldl, crcCompute_b_eq_foldl⟩

/-! ### The residue (95_test_vectors.md L2-2) -/

/-- Whatever the data, its Variant-A checksum leaves 0 in the accumulator. -/
theorem crcAcc_append_crcCompute_a (d : List Byte) : crcAcc 0x6363 (d ++ crcCompute .a d) = 0x0000 := by
  have hfinal : crcFinal .a d = crcAcc 0x6363 d ^^^ 0 := BitVec.xor_zero.symm
  rw [crcAcc_append, crcCompute, hfinal]
  exact crcStep_crcStep_own_bytes (crcAcc 0x6363 d) 0

/-- Settles O8: the two steps over the checksum cancel the accumulator of the data. -/
theorem checksumResidue : Obligations.ChecksumResidue := fun d =>
  ⟨crcAcc_append_crcCompute_a d, crcAcc_append_crcCompute_b d⟩

/-! ### The checksum commands (R105 to R107) -/

theorem seqTooLong_of_not_seqFits {s : State} (h : ¬ SeqFits s) : seqTooLong s = true := by
  by_contra hl
  refine h fun hv m hm => not_lt.mp fun hlt => hl ?_
  exact seqTooLong_iff.mpr ⟨hv, m, hm, hlt⟩

theorem seqFits_of_absent {s : State} (h : s.ops.seqValid = false) : SeqFits s := fun hv =>
  absurd (h.symm.trans hv) Bool.false_ne_true

theorem seqFits_of_nil {s : State} (h : HasSeq s []) : SeqFits s := fun _ m _ => by
  rw [h.2]
  exact Nat.zero_le m

theorem crcCommand_of_not_seqFits (v : Option Variant) {s : State} (h : ¬ SeqFits s) :
    crcCommand v s = refuses s .seqTooLong := by
  rw [crcCommand, requireSeqFits_of_too_long (seqTooLong_of_not_seqFits h)]
  rfl

theorem crcCommand_none {s : State} (hf : SeqFits s) : crcCommand none s = fails s .invalidInput := by
  rw [crcCommand, requireSeqFits_of_fits (seqTooLong_of_seqFits hf)]
  rfl

theorem crcCommand_of_absent (v : Variant) {s : State} (h : s.ops.seqValid = false) :
    crcCommand (some v) s = fails s .invalidInput := by
  rw [crcCommand, requireSeqFits_of_fits (seqTooLong_of_seqFits (seqFits_of_absent h)), seqOperand_eq_none.mpr h]
  rfl

theorem crcCommand_of_hasSeq (v : Variant) {s : State} {d : List Byte} (hd : HasSeq s d) (hf : SeqFits s) :
    crcCommand (some v) s = answers s (crcCompute v d) := by
  rw [crcCommand, requireSeqFits_of_fits (seqTooLong_of_seqFits hf), seqOperand_eq_some.mpr hd]
  rfl

/-- Settles O5: an empty sequence is present and fits any SEQ_MAX, so its checksum is that of the seed alone. -/
theorem emptySequenceIsValid : Obligations.EmptySequenceIsValid := by
  refine ⟨fun _ => rfl, rfl, rfl, fun s hs => ?_, fun s hv => ?_⟩
  · exact ⟨crcCommand_of_hasSeq .a hs (seqFits_of_nil hs), crcCommand_of_hasSeq .b hs (seqFits_of_nil hs)⟩
  · exact ⟨crcCommand_of_absent .a hv, crcCommand_of_absent .b hv⟩

/-- Settles O6: the output both states answer is the checksum of their common sequence. -/
theorem checksumStatedProperties : Obligations.ChecksumStatedProperties := by
  refine ⟨fun s s' d hd hd' hf hf' => ?_, crcCompute_eq_littleEndian .b, crcCompute_length⟩
  exact ⟨crcCompute .a d, crcCommand_of_hasSeq .a hd hf, crcCommand_of_hasSeq .a hd' hf'⟩

/-- Settles O7: the cases of the shared checksum command, one lemma each. -/
theorem crcCommandOutcomes : Obligations.CrcCommandOutcomes := by
  refine ⟨decode_encode .crc, decode_encode .crcA, decode_encode .crcB, by decide, fun s hn => ?_,
    fun s hf => crcCommand_none hf, fun s hv => ?_, fun s d hd hf => ?_⟩
  · exact ⟨crcCommand_of_not_seqFits none hn, crcCommand_of_not_seqFits (some .a) hn,
      crcCommand_of_not_seqFits (some .b) hn⟩
  · exact ⟨crcCommand_of_absent .a hv, crcCommand_of_absent .b hv⟩
  · rw [← crcCompute_a_eq_foldl, ← crcCompute_b_eq_foldl]
    exact ⟨crcCommand_of_hasSeq .a hd hf, crcCommand_of_hasSeq .b hd hf⟩

end Sys2Proof.Machine
end

section
/-! SUPPORT. The frames family (spec 41_frames.md): the bytes of each layout, and what the frame commands and SETUID
answer. -/

namespace Sys2Proof.Machine

open Sys2Proof.Claims

/-! ### The bytes of each layout (R69, R130) -/

theorem preFrame_fs {op : FrameOp} (c : Config) (u : Uid) (hf : frameFormat op = .fs) :
    preFrame c u op ⟨none, none, none⟩ = [opc c op] := by
  rw [preFrame, hf]
  rfl

theorem preFrame_fz7 {op : FrameOp} (c : Config) (u : Uid) (hf : frameFormat op = .fz7) :
    preFrame c u op ⟨none, none, none⟩ = opc c op :: List.replicate 6 0x00 := by
  rw [preFrame, hf]
  rfl

/-- A field the operation does not fill stays 0x00. -/
theorem preFrame_fu7 {op : FrameOp} (c : Config) (u : Uid) (a d : Option Byte) (hf : frameFormat op = .fu7) :
    preFrame c u op ⟨a, d, none⟩ = [opc c op, a.getD 0x00, d.getD 0x00, u.b0, u.b1, u.b2, u.b3] := by
  rw [preFrame, hf]
  cases a <;> cases d <;> rfl

theorem preFrame_fu14 {op : FrameOp} (c : Config) (u : Uid) (a : Byte) (hf : frameFormat op = .fu14) :
    preFrame c u op ⟨some a, none, none⟩ = [opc c op, a] ++ List.replicate 8 0x00 ++ [u.b0, u.b1, u.b2, u.b3] := by
  rw [preFrame, hf]
  rfl

theorem preFrame_fu14_payload {op : FrameOp} (c : Config) (u : Uid) (a : Byte) {p : List Byte}
    (hf : frameFormat op = .fu14) (hp : p.length = 8) :
    preFrame c u op ⟨some a, none, some p⟩ = [opc c op, a] ++ p ++ [u.b0, u.b1, u.b2, u.b3] := by
  rw [preFrame, hf]
  match p, hp with
  | [_, _, _, _, _, _, _, _], _ => rfl

/-! ### The frame commands without a payload (R132, R134 to R142) -/

section Commands
variable {op : FrameOp} {s : State}

theorem frameCommand_of_not_built (x : FrameFields) (hb : s.built = false) :
    frameCommand op x s = fails s .notConstructed := by
  rw [frameCommand, requireBuilt_of_not_built hb]
  rfl

theorem frameCommand_of_built {x : FrameFields} {f : List Byte} (hb : s.built = true)
    (hf : preFrame s.cfg s.uid op x = f) : frameCommand op x s = answers s (f ++ trailer s.appendCrc f) := by
  rw [frameCommand, requireBuilt_of_built hb, buildFrame, appendIfConfigured_eq_append_trailer, hf]
  rfl

/-! ### The frame commands with a payload (R132, R143 to R145) -/

theorem payload8_seqOperand_eq_none {o : Operands} (h : o.seqValid = false ∨ o.seq.length ≠ 8) :
    payload8 (seqOperand o) = none := by
  refine Option.eq_none_iff_forall_ne_some.mpr fun p hp => ?_
  obtain ⟨hop, hlen⟩ := payload8_eq_some.mp hp
  obtain ⟨hv, rfl⟩ := seqOperand_eq_some.mp hop
  simp [hv, hlen] at h

theorem payloadCommand_of_not_built (hb : s.built = false) : payloadCommand op s = fails s .notConstructed := by
  rw [payloadCommand, requireBuilt_of_not_built hb]
  rfl

theorem payloadCommand_of_not_seqFits (hb : s.built = true) (h : ¬ SeqFits s) :
    payloadCommand op s = refuses s .seqTooLong := by
  rw [payloadCommand, requireBuilt_of_built hb, requireSeqFits_of_too_long (seqTooLong_of_not_seqFits h)]
  rfl

theorem payloadCommand_of_no_payload (hb : s.built = true) (hfit : SeqFits s)
    (h : s.ops.seqValid = false ∨ s.ops.seq.length ≠ 8) : payloadCommand op s = fails s .invalidPayload := by
  rw [payloadCommand, requireBuilt_of_built hb, requireSeqFits_of_fits (seqTooLong_of_seqFits hfit),
    payload8_seqOperand_eq_none h]
  rfl

theorem payloadCommand_of_payload {p f : List Byte} (hop : frameFormat op = .fu14) (hb : s.built = true)
    (hfit : SeqFits s) (hs : HasSeq s p) (hp : p.length = 8)
    (hf : f = [opc s.cfg op, s.ops.opa] ++ p ++ [s.uid.b0, s.uid.b1, s.uid.b2, s.uid.b3]) :
    payloadCommand op s = answers s (f ++ trailer s.appendCrc f) := by
  have hpayload : payload8 (seqOperand s.ops) = some p := payload8_eq_some.mpr ⟨seqOperand_eq_some.mpr hs, hp⟩
  rw [payloadCommand, requireBuilt_of_built hb, requireSeqFits_of_fits (seqTooLong_of_seqFits hfit), hpayload, hf,
    ← preFrame_fu14_payload s.cfg s.uid s.ops.opa hop hp, ← appendIfConfigured_eq_append_trailer]
  rfl

/-- A sequence no longer than the least legal SEQ_MAX fits (R9). -/
theorem seqFits_of_wf (hw : s.cfg.wf = true) (hl : s.ops.seq.length ≤ 14) : SeqFits s := fun _ _ hm =>
  hl.trans (seqMax_ge_of_wf hw hm)

theorem answers_ne_refuses {out : List Byte} {r : RefuseReason} : answers s out ≠ refuses s r := fun h => by
  injection h with h
  cases congrArg State.resp h

theorem fails_ne_refuses {e : ErrorCode} {r : RefuseReason} : fails s e ≠ refuses s r := fun h => by
  injection h with h
  cases congrArg State.resp h

/-- A payload command refuses nothing but a sequence beyond SEQ_MAX. -/
theorem payloadCommand_ne_refuses {r : RefuseReason} (hfit : SeqFits s) : payloadCommand op s ≠ refuses s r := by
  cases hb : s.built with
  | false =>
    rw [payloadCommand_of_not_built hb]
    exact fails_ne_refuses
  | true =>
    rw [payloadCommand, requireBuilt_of_built hb, requireSeqFits_of_fits (seqTooLong_of_seqFits hfit)]
    split
    · exact answers_ne_refuses
    · exact fails_ne_refuses

end Commands

/-! ### The obligations -/

/-- Settles O15: the cases of the shared payload command; a sequence of 8 bytes fits every legal SEQ_MAX. -/
theorem eightByteWriteFrameCommands : Obligations.EightByteWriteFrameCommands := by
  refine ⟨decode_encode .writee8, decode_encode .writene8, fun s hb => ?_, fun s hb hn => ?_, fun s hb hfit h => ?_,
    fun s p f => payloadCommand_of_payload rfl, fun s p f => payloadCommand_of_payload rfl, fun s hw hr hlen => ?_⟩
  · exact ⟨payloadCommand_of_not_built hb, payloadCommand_of_not_built hb⟩
  · exact ⟨payloadCommand_of_not_seqFits hb hn, payloadCommand_of_not_seqFits hb hn⟩
  · exact ⟨payloadCommand_of_no_payload hb hfit h, payloadCommand_of_no_payload hb hfit h⟩
  · exact payloadCommand_ne_refuses (seqFits_of_wf hw (by omega)) hr

/-- Settles O9: both frames are the opcode alone. -/
theorem shortFrameCommands : Obligations.ShortFrameCommands := by
  refine ⟨decode_encode .req, decode_encode .wup, fun s hb => ?_, fun s hb => ?_⟩
  · exact ⟨frameCommand_of_not_built _ hb, frameCommand_of_not_built _ hb⟩
  · exact ⟨frameCommand_of_built hb (preFrame_fs s.cfg s.uid rfl), frameCommand_of_built hb (preFrame_fs s.cfg s.uid rfl)⟩

/-- The checksum of RID's constant frame (R136). -/
theorem trailer_readId : trailer true (0x78 :: List.replicate 6 0x00) = [0xD0, 0x43] := by
  decide

/-- Settles O10: OPC(ReadId) is pinned and no field is filled, so the frame is constant, and its trailer with it. -/
theorem readIdFrameCommand : Obligations.ReadIdFrameCommand := by
  have hrid (s : State) (hb : s.built = true) := frameCommand_of_built hb (preFrame_fz7 (op := .readId) s.cfg s.uid rfl)
  refine ⟨decode_encode .rid, fun s hb => frameCommand_of_not_built _ hb, fun s hb hflag => ?_, fun s hb hflag => ?_⟩
  · refine (hrid s hb).trans ?_
    rw [hflag]
    rfl
  · refine (hrid s hb).trans ?_
    rw [hflag, opc, trailer_readId]
    rfl

/-- Settles O11: an identifier frame with no field filled. -/
theorem readAllFrameCommand : Obligations.ReadAllFrameCommand := by
  refine ⟨decode_encode .rall, fun s hb => frameCommand_of_not_built _ hb, fun s f hb hf => ?_⟩
  exact frameCommand_of_built hb (hf ▸ preFrame_fu7 s.cfg s.uid none none rfl)

/-- Settles O12: an identifier frame with the address byte filled. -/
theorem readFrameCommand : Obligations.ReadFrameCommand := by
  refine ⟨decode_encode .read, fun s hb => frameCommand_of_not_built _ hb, fun s f hb hf => ?_⟩
  exact frameCommand_of_built hb (hf ▸ preFrame_fu7 s.cfg s.uid (some s.ops.opa) none rfl)

/-- Settles O13: identifier frames with the address byte and the data byte filled. -/
theorem oneByteWriteFrameCommands : Obligations.OneByteWriteFrameCommands := by
  refine ⟨decode_encode .writee, decode_encode .writene, fun s hb => ?_, fun s f hb hf => ?_, fun s f hb hf => ?_⟩
  · exact ⟨frameCommand_of_not_built _ hb, frameCommand_of_not_built _ hb⟩
  · exact frameCommand_of_built hb (hf ▸ preFrame_fu7 s.cfg s.uid (some s.ops.opa) (some s.ops.opb) rfl)
  · exact frameCommand_of_built hb (hf ▸ preFrame_fu7 s.cfg s.uid (some s.ops.opa) (some s.ops.opb) rfl)

/-- Settles O14: 14-byte frames whose payload stays zero. -/
theorem eightByteReadFrameCommands : Obligations.EightByteReadFrameCommands := by
  refine ⟨decode_encode .rseg, decode_encode .read8, fun s hb => ?_, fun s f hb hf => ?_, fun s f hb hf => ?_⟩
  · exact ⟨frameCommand_of_not_built _ hb, frameCommand_of_not_built _ hb⟩
  · exact frameCommand_of_built hb (hf ▸ preFrame_fu14 s.cfg s.uid s.ops.opa rfl)
  · exact frameCommand_of_built hb (hf ▸ preFrame_fu14 s.cfg s.uid s.ops.opa rfl)

/-- An operand is no identifier when it is absent or not of 4 bytes (R150). -/
theorem seqOperand_bind_uidOfBytes_eq_none {o : Operands} (h : o.seqValid = false ∨ o.seq.length ≠ 4) :
    (seqOperand o).bind uidOfBytes = none := by
  refine Option.bind_eq_none_iff.mpr fun l hl => uidOfBytes_eq_none.mpr ?_
  obtain ⟨hv, rfl⟩ := seqOperand_eq_some.mp hl
  exact h.resolve_left (by simp [hv])

/-- Settles O28: the cases of SETUID, one lemma each. -/
theorem setuidCommandOutcomes : Obligations.SetuidCommandOutcomes := by
  refine ⟨decode_encode .setuid, fun s hb => execSetuid_of_not_built hb, fun s hb hn => ?_, fun s hb hfit h => ?_,
    fun s u0 u1 u2 u3 hb hfit hs => ?_⟩
  · exact execSetuid_of_too_long hb (seqTooLong_of_not_seqFits hn)
  · exact execSetuid_of_no_uid hb (seqTooLong_of_seqFits hfit) (seqOperand_bind_uidOfBytes_eq_none h)
  · refine execSetuid_of_uid (u := ⟨u0, u1, u2, u3⟩) hb (seqTooLong_of_seqFits hfit) ?_
    rw [seqOperand_eq_some.mpr hs]
    rfl

end Sys2Proof.Machine
end

section
/-! SUPPORT. The helpers family (spec 42_helpers.md): the digit table and its inverse, and what ADDRB, ADDRS, ADDR8 and
APPEND answer on every operand. -/

namespace Sys2Proof.Machine

open Sys2Proof.Claims

/-! ### The digit table (R180) -/

theorem digitValue_of_decimal {c : Byte} (hlo : 0x30 ≤ c.toNat) (hhi : c.toNat ≤ 0x39) :
    digitValue c = some (c.toNat - 0x30) :=
  if_pos ⟨hlo, hhi⟩

theorem digitValue_of_letter {c : Byte} (hlo : 0x41 ≤ c.toNat) (hhi : c.toNat ≤ 0x46) :
    digitValue c = some (c.toNat - 0x41 + 10) := by
  have hdecimal : ¬ (0x30 ≤ c.toNat ∧ c.toNat ≤ 0x39) := by omega
  rw [digitValue, if_neg hdecimal, if_pos ⟨hlo, hhi⟩]

theorem digitValue_of_other {c : Byte}
    (h : c.toNat < 0x30 ∨ (0x39 < c.toNat ∧ c.toNat < 0x41) ∨ 0x46 < c.toNat) : digitValue c = none := by
  have hdecimal : ¬ (0x30 ≤ c.toNat ∧ c.toNat ≤ 0x39) := by omega
  have hletter : ¬ (0x41 ≤ c.toNat ∧ c.toNat ≤ 0x46) := by omega
  rw [digitValue, if_neg hdecimal, if_neg hletter]

/-- Settles O22: the two ranges of the table and the codes outside both. -/
theorem digitTable : Obligations.DigitTable :=
  ⟨fun _ => digitValue_of_decimal, fun _ => digitValue_of_letter, fun _ => digitValue_of_other⟩

/-- The table read backwards: the code of a digit. -/
theorem toNat_of_digitValue {c : Byte} {d : Nat} (h : digitValue c = some d) :
    c.toNat = if d ≤ 9 then 0x30 + d else 0x37 + d := by
  unfold digitValue at h
  split at h
  · cases h
    rw [if_pos (by omega)]
    omega
  · split at h
    · cases h
      rw [if_neg (by omega)]
      omega
    · cases h

theorem digitValue_inj {c c' : Byte} {d : Nat} (h : digitValue c = some d) (h' : digitValue c' = some d) : c = c' :=
  BitVec.eq_of_toNat_eq ((toNat_of_digitValue h).trans (toNat_of_digitValue h').symm)

/-! ### The byte address (R181) -/

theorem byteAddress_eq_ofNat (d n : Nat) : byteAddress d n = BitVec.ofNat 8 (d * 8 + n) := by
  rw [byteAddress, Nat.shiftLeft_eq]

/-- Digit and index are the quotient and the remainder of the byte address by 8. -/
theorem byteAddress_inj {d d' n n' : Nat} (hd : d ≤ 15) (hd' : d' ≤ 15) (hn : n ≤ 7) (hn' : n' ≤ 7)
    (h : byteAddress d n = byteAddress d' n') : d = d' ∧ n = n' := by
  have hnat := congrArg BitVec.toNat h
  rw [byteAddress_toNat hd hn, byteAddress_toNat hd' hn'] at hnat
  omega

/-- Settles O27: the byte determines digit and index, and the digit determines its character. -/
theorem byteAddressDeterminesItsOperands : Obligations.ByteAddressDeterminesItsOperands := by
  intro s s' t t' a h hr h' hr'
  obtain ⟨d, hd, hi, ha⟩ := okOut_addrb s t [a] h hr
  obtain ⟨d', hd', hi', ha'⟩ := okOut_addrb s' t' [a] h' hr'
  have hbyte : byteAddress d s.ops.idx.toNat = byteAddress d' s'.ops.idx.toNat :=
    List.singleton_inj.mp (ha.symm.trans ha')
  obtain ⟨rfl, hidx⟩ := byteAddress_inj (digitValue_le hd) (digitValue_le hd') hi hi' hbyte
  exact ⟨digitValue_inj hd hd', BitVec.eq_of_toNat_eq hidx⟩

/-! ### The address helpers on every operand (R181 to R183) -/

theorem indexIn_eq_none {hi : Nat} {i : Int} : indexIn hi i = none ↔ i < 0 ∨ hi < i := by
  unfold indexIn
  split
  · simp only [reduceCtorEq, false_iff]
    omega
  · simp only [true_iff]
    omega

section Addresses
variable {s : State} {d n : Nat}

theorem execAddrb_of_no_digit (hd : digitValue (opa s) = none) : execAddrb s = refuses s .digitDomain := by
  rw [execAddrb, hd]
  rfl

theorem execAddrb_of_no_index (hd : digitValue (opa s) = some d) (hi : indexIn 7 (idx s) = none) :
    execAddrb s = refuses s .indexDomain := by
  rw [execAddrb, hd, hi]
  rfl

theorem execAddrb_of_index (hd : digitValue (opa s) = some d) (hi : indexIn 7 (idx s) = some n) :
    execAddrb s = answers s [byteAddress d n] := by
  rw [execAddrb, hd, hi]
  rfl

theorem execAddrs_of_no_index (hi : indexIn 3 (idx s) = none) : execAddrs s = fails s .invalidSegmentIndex := by
  rw [execAddrs, hi]
  rfl

theorem execAddrs_of_index (hi : indexIn 3 (idx s) = some n) : execAddrs s = answers s [segmentAddress n] := by
  rw [execAddrs, hi]
  rfl

theorem execAddr8_of_no_index (hi : indexIn 0x3F (idx s) = none) : execAddr8 s = fails s .invalidBlockIndex := by
  rw [execAddr8, hi]
  rfl

/-- The index passes through unchanged (R183). -/
theorem execAddr8_of_index (hi : indexIn 0x3F (idx s) = some n) : execAddr8 s = answers s [s.ops.idx.setWidth 8] := by
  obtain ⟨rfl, _⟩ := toNat_of_indexIn hi
  rw [execAddr8, hi, ← BitVec.ofNat_toNat]
  rfl

end Addresses

/-- Settles O23: the digit is checked first, then the index; the address is `d * 8 + IDX`. -/
theorem addrbCommandOutcomes : Obligations.AddrbCommandOutcomes := by
  refine ⟨decode_encode .addrb, fun s hd => execAddrb_of_no_digit hd, fun s d hd hi => ?_,
    fun s d n hd hi hn => ⟨digitValue_le hd, ?_⟩⟩
  · exact execAddrb_of_no_index hd (indexIn_eq_none.mpr hi)
  · rw [← byteAddress_eq_ofNat]
    exact execAddrb_of_index hd (indexIn_eq_some.mpr ⟨hi, hn⟩)

/-- Settles O24: outside 0 to 3 there is no index, and the four indices have the four segment addresses. -/
theorem addrsCommandOutcomes : Obligations.AddrsCommandOutcomes := by
  have haddrs (s : State) (n : Nat) (hn : n ≤ 3) (hi : s.ops.idx.toInt = n) :
      exec .addrs s = answers s [segmentAddress n] := execAddrs_of_index (indexIn_eq_some.mpr ⟨hi, hn⟩)
  exact ⟨decode_encode .addrs, fun s hi => execAddrs_of_no_index (indexIn_eq_none.mpr hi),
    fun s => haddrs s 0 (by decide), fun s => haddrs s 1 (by decide), fun s => haddrs s 2 (by decide),
    fun s => haddrs s 3 (by decide)⟩

/-- Settles O25: outside 0 to 0x3F there is no index, and one in range is passed through. -/
theorem addr8CommandOutcomes : Obligations.Addr8CommandOutcomes := by
  refine ⟨decode_encode .addr8, fun s hi => execAddr8_of_no_index (indexIn_eq_none.mpr hi), fun s hlo hhi => ?_⟩
  exact execAddr8_of_index (if_pos ⟨hlo, hhi⟩)

/-! ### APPEND on every operand (R185) -/

section Append
variable {s : State}

theorem execAppend_of_not_built (hb : s.built = false) : execAppend s = fails s .notConstructed := by
  rw [execAppend, requireBuilt_of_not_built hb]
  rfl

theorem execAppend_of_not_seqFits (hb : s.built = true) (h : ¬ SeqFits s) : execAppend s = refuses s .seqTooLong := by
  rw [execAppend, requireBuilt_of_built hb, requireSeqFits_of_too_long (seqTooLong_of_not_seqFits h)]
  rfl

/-- An absent sequence is an error when a checksum is asked for, and refused when it is not. -/
theorem execAppend_of_absent (hb : s.built = true) (hv : s.ops.seqValid = false) :
    execAppend s = if s.appendCrc then fails s .invalidInput else refuses s .seqAbsent := by
  rw [execAppend, requireBuilt_of_built hb, requireSeqFits_of_fits (seqTooLong_of_seqFits (seqFits_of_absent hv)),
    seqOperand_eq_none.mpr hv]
  rfl

theorem execAppend_of_hasSeq {l : List Byte} (hb : s.built = true) (hfit : SeqFits s) (hs : HasSeq s l) :
    execAppend s = answers s (l ++ trailer s.appendCrc l) := by
  rw [execAppend, requireBuilt_of_built hb, requireSeqFits_of_fits (seqTooLong_of_seqFits hfit),
    seqOperand_eq_some.mpr hs, ← appendIfConfigured_eq_append_trailer]
  rfl

end Append

/-- Settles O20: the cases of APPEND, one lemma each; the flag decides what an absent sequence means. -/
theorem appendCommandOutcomes : Obligations.AppendCommandOutcomes := by
  refine ⟨decode_encode .append, fun _ => execAppend_of_not_built, fun _ => execAppend_of_not_seqFits,
    fun s hb hv hflag => ?_, fun s hb hv hflag => ?_, fun _ _ => execAppend_of_hasSeq⟩
  · exact (execAppend_of_absent hb hv).trans (if_pos hflag)
  · exact (execAppend_of_absent hb hv).trans (if_neg (by simp [hflag]))

/-- The trailer of a sequence that ends in its own trailer is the constant of the residue (95_test_vectors.md L2-2). -/
theorem trailer_append_trailer (l : List Byte) : trailer true (l ++ trailer true l) = [0x47, 0x0F] := by
  have htrailer (m : List Byte) : trailer true m = crcCompute .b m := (crcCompute_b_eq_foldl m).symm
  rw [htrailer, htrailer, crcCompute_b_append_self]

/-- Settles O21: APPEND adds the trailer of a sequence that carries its own, which is a constant. -/
theorem appendTwiceAddsConstantTrailer : Obligations.AppendTwiceAddsConstantTrailer := by
  intro s l hb hflag hfit hs
  have happend : exec .append s = _ := execAppend_of_hasSeq hb hfit hs
  rw [happend, hflag, trailer_append_trailer]

end Sys2Proof.Machine
end

section
/-! SUPPORT. The exceptions family (spec 60_exceptions.md): the STATUS codes, which STATUS each command can end with and
which check gives it, and what a failing command leaves behind. -/

namespace Sys2Proof.Machine

open Sys2Proof.Claims

/-! ### A failure leaves no trace (R204) -/

theorem Ends.frame_of_failure {i : Instr} {s t : State} {st : Status} {out : List Byte} (h : Ends i s t)
    (hr : t.resp = .command st out) (hst : st ≠ .ok) :
    out = [] ∧ t = { s with resp := t.resp, refusedMark := t.refusedMark } := by
  cases h with
  | returned | installed => cases hr; exact absurd rfl hst
  | raised | refused => cases hr; exact ⟨rfl, rfl⟩

/-- A step whose command fails writes only the answer and the mark, and takes the command off the port. -/
theorem step_frame_of_failure {s t : State} {c : Command} {rest : List Transaction} {st : Status} {out : List Byte}
    (hp : s.port = .command c :: rest) (h : step s = .next t) (hr : t.resp = .command st out) (hst : st ≠ .ok) :
    out = [] ∧ t = { s with port := rest, ops := c.ops, resp := t.resp, refusedMark := t.refusedMark } := by
  rw [step_of_port_command hp, performCommand] at h
  split at h
  · exact (exec_cases h).frame_of_failure hr hst
  · cases raise_eq_next.mp h
    cases hr
    exact ⟨rfl, rfl⟩

/-- Settles O35: a failing step writes only the answer and the mark, which no later transaction reads. -/
theorem failureWritesNothing : Obligations.FailureWritesNothing := by
  intro s t c rest st out hp h hr hst
  obtain ⟨rfl, hframe⟩ := step_frame_of_failure hp h hr hst
  have hmark : MarkFollows s t := step_markFollows h (by simp [hp])
  have hsame : SameBuilder t { s with port := rest } := by
    rw [hframe]
    exact ⟨rfl, rfl, rfl, fun _ => ⟨rfl, rfl⟩⟩
  have hport : t.port = rest := hsame.1
  refine ⟨rfl, ?_, hport, ?_, fun n hn => transcript_eq_of_sameBuilder hsame (hport ▸ hn)⟩
  · rw [hframe]
    exact ⟨rfl, rfl, rfl⟩
  · simpa [MarkFollows, hr] using hmark

/-! ### The checks every command shares, in their order (R202, R203, R206) -/

/-- The first check: a builder command looks at no operand while BUILT = 0. -/
theorem exec_of_not_built {i : Instr} {s : State} (hi : i ∈ builderCommands) (hb : s.built = false) :
    exec i s = fails s .notConstructed := by
  cases i with
  | crc | crcA | crcB | addrb | addrs | addr8 => exact absurd hi (by decide)
  | append => exact execAppend_of_not_built hb
  | setuid => exact execSetuid_of_not_built hb
  | req | wup | rid | rall | read | writee | writene | rseg | read8 => exact frameCommand_of_not_built _ hb
  | writee8 | writene8 => exact payloadCommand_of_not_built hb

/-- The second check: a command that reads SEQ looks at its length before anything else of it. -/
theorem exec_of_not_seqFits {i : Instr} {s : State} (hi : i ∈ seqCommands) (hn : ¬ SeqFits s)
    (hb : i ∈ builderCommands → s.built = true) : exec i s = refuses s .seqTooLong := by
  cases i with
  | addrb | addrs | addr8 | req | wup | rid | rall | read | writee | writene | rseg | read8 =>
    exact absurd hi (by decide)
  | crc => exact crcCommand_of_not_seqFits none hn
  | crcA => exact crcCommand_of_not_seqFits (some .a) hn
  | crcB => exact crcCommand_of_not_seqFits (some .b) hn
  | append => exact execAppend_of_not_seqFits (hb (by decide)) hn
  | setuid => exact execSetuid_of_too_long (hb (by decide)) (seqTooLong_of_not_seqFits hn)
  | writee8 | writene8 => exact payloadCommand_of_not_seqFits (hb (by decide)) hn

/-- Settles O36: the two shared checks, then the own checks of ADDRB, APPEND and CRC. -/
theorem orderOfChecks : Obligations.OrderOfChecks :=
  ⟨fun _ _ _ => step_of_illegal, fun _ hi _ => exec_of_not_built hi,
    fun _ hi _ hn _ hb => exec_of_not_seqFits hi hn fun _ => hb,
    fun _ hi _ hn hfree => exec_of_not_seqFits hi hn fun hmem => absurd hmem hfree,
    fun _ => execAddrb_of_no_digit, fun _ _ hd hi => execAddrb_of_no_index hd (indexIn_eq_none.mpr hi),
    fun _ => execAppend_of_absent, fun _ => crcCommand_none⟩

/-! ### A command ends with no STATUS outside the table (R207) -/

/-- A result that answers no STATUS outside `l`. -/
def StatusIn (l : List Status) (q : Result) : Prop := ∀ t st out, q = .next t → t.resp = .command st out → st ∈ l

section StatusIn
variable {l : List Status} {s : State}

theorem statusIn_ret {out : List Byte} (h : .ok ∈ l) : StatusIn l (ret out s) := by
  rintro t st out' ht hr
  cases ret_eq_next.mp ht
  cases hr
  exact h

theorem statusIn_raise {e : ErrorCode} (h : .error e ∈ l) : StatusIn l (raise e s) := by
  rintro t st out' ht hr
  cases raise_eq_next.mp ht
  cases hr
  exact h

theorem statusIn_refuse {r : RefuseReason} (h : .refused r ∈ l) : StatusIn l (refuse r s) := by
  rintro t st out' ht hr
  cases refuse_eq_next.mp ht
  cases hr
  exact h

theorem statusIn_requireBuilt {k : State → Result} (hl : .error .notConstructed ∈ l) (h : StatusIn l (k s)) :
    StatusIn l (requireBuilt k s) := by
  cases hb : s.built with
  | true => rwa [requireBuilt_of_built hb]
  | false => rw [requireBuilt_of_not_built hb]; exact statusIn_raise hl

theorem statusIn_requireSeqFits {k : State → Result} (hl : .refused .seqTooLong ∈ l) (h : StatusIn l (k s)) :
    StatusIn l (requireSeqFits k s) := by
  cases hq : seqTooLong s with
  | true => rw [requireSeqFits_of_too_long hq]; exact statusIn_refuse hl
  | false => rwa [requireSeqFits_of_fits hq]

theorem statusIn_crcCommand_none : StatusIn (possible .crc) (crcCommand none s) :=
  statusIn_requireSeqFits (by decide) (statusIn_raise (by decide))

theorem statusIn_crcCommand_some {v : Variant} : StatusIn (possible .crcA) (crcCommand (some v) s) := by
  refine statusIn_requireSeqFits (by decide) ?_
  split
  · exact statusIn_ret (by decide)
  · exact statusIn_raise (by decide)

theorem statusIn_append : StatusIn (possible .append) (execAppend s) := by
  refine statusIn_requireBuilt (by decide) (statusIn_requireSeqFits (by decide) ?_)
  split
  · exact statusIn_ret (by decide)
  · split
    · exact statusIn_raise (by decide)
    · exact statusIn_refuse (by decide)

theorem statusIn_setuid : StatusIn (possible .setuid) (execSetuid s) := by
  refine statusIn_requireBuilt (by decide) (statusIn_requireSeqFits (by decide) ?_)
  split
  · exact statusIn_ret (by decide)
  · exact statusIn_raise (by decide)

theorem statusIn_addrb : StatusIn (possible .addrb) (execAddrb s) := by
  unfold execAddrb
  split
  · exact statusIn_refuse (by decide)
  · split
    · exact statusIn_refuse (by decide)
    · exact statusIn_ret (by decide)

theorem statusIn_addrs : StatusIn (possible .addrs) (execAddrs s) := by
  unfold execAddrs
  split
  · exact statusIn_raise (by decide)
  · exact statusIn_ret (by decide)

theorem statusIn_addr8 : StatusIn (possible .addr8) (execAddr8 s) := by
  unfold execAddr8
  split
  · exact statusIn_raise (by decide)
  · exact statusIn_ret (by decide)

theorem statusIn_frameCommand {op : FrameOp} {x : FrameFields} : StatusIn (possible .req) (frameCommand op x s) :=
  statusIn_requireBuilt (by decide) (statusIn_ret (by decide))

theorem statusIn_payloadCommand {op : FrameOp} : StatusIn (possible .writee8) (payloadCommand op s) := by
  refine statusIn_requireBuilt (by decide) (statusIn_requireSeqFits (by decide) ?_)
  split
  · exact statusIn_ret (by decide)
  · exact statusIn_raise (by decide)

end StatusIn

theorem exec_statusIn (i : Instr) (s : State) : StatusIn (possible i) (exec i s) := by
  cases i with
  | crc => exact statusIn_crcCommand_none
  | crcA | crcB => exact statusIn_crcCommand_some
  | append => exact statusIn_append
  | addrb => exact statusIn_addrb
  | addrs => exact statusIn_addrs
  | addr8 => exact statusIn_addr8
  | setuid => exact statusIn_setuid
  | req | wup | rid | rall | read | writee | writene | rseg | read8 => exact statusIn_frameCommand
  | writee8 | writene8 => exact statusIn_payloadCommand

/-! ### A command ends with every STATUS of the table (R207) -/

/-- Some state with legal parameters makes the command end with this STATUS. -/
def CanEndWith (i : Instr) (st : Status) : Prop :=
  ∃ s t out, s.cfg.wf = true ∧ exec i s = .next t ∧ t.resp = .command st out

/-- Operand signals with which the command succeeds on a constructed block, for every command but CRC without a
variant. -/
def goodOperands : Instr → Operands
  | .addrb => plain 0x30 0x00 0
  | .setuid => withData 0x00 [0x13, 0x37, 0xFF, 0x42]
  | .writee8 | .writene8 => withData 0x00 (zeros 8)
  | .crc | .crcA | .crcB | .append | .addrs | .addr8 | .req | .wup | .rid | .rall | .read | .writee | .writene | .rseg
  | .read8 => withData 0x00 []

theorem canEndWith_ok {i : Instr} (hi : .ok ∈ possible i) : CanEndWith i .ok := by
  refine ⟨State.reset.setOps (goodOperands i), ?_⟩
  cases i with
  | crc => exact absurd hi (by decide)
  | crcA | crcB | append | addrb | addrs | addr8 | setuid | req | wup | rid | rall | read | writee | writene | rseg
  | read8 | writee8 | writene8 => exact ⟨_, _, rfl, rfl, rfl⟩

theorem canEndWith_notConstructed {i : Instr} (hi : i ∈ builderCommands) : CanEndWith i (.error .notConstructed) :=
  ⟨State.powerUp Config.default, _, _, rfl, exec_of_not_built hi rfl, rfl⟩

/-- A constructed block with SEQ_MAX = 14, the least legal value, and a sequence of 15 bytes. -/
def overlong : State := { State.reset with cfg := ⟨OpcTable.default, some 14⟩, ops := withData 0x00 (zeros 15) }

theorem not_seqFits_overlong : ¬ SeqFits overlong := fun h =>
  absurd (h rfl 14 rfl) (show ¬ (zeros 15).length ≤ 14 by decide)

theorem canEndWith_seqTooLong {i : Instr} (hi : i ∈ seqCommands) : CanEndWith i (.refused .seqTooLong) :=
  ⟨overlong, _, _, rfl, exec_of_not_seqFits hi not_seqFits_overlong fun _ => rfl, rfl⟩

theorem mem_builderCommands_of_possible {i : Instr} : .error .notConstructed ∈ possible i → i ∈ builderCommands := by
  cases i <;> decide

theorem mem_seqCommands_of_possible {i : Instr} : .refused .seqTooLong ∈ possible i → i ∈ seqCommands := by
  cases i <;> decide

/-- A constructed block with no sequence and an index beyond every range: every check of a command's own fails but
ADDRB's of the digit, which `a` decides; the flag `f` decides what APPEND answers. -/
def outOfDomain (f : Bool) (a : Byte) : State := { State.reset with appendCrc := f, ops := plain a 0x00 64 }

/-- Every other STATUS of the table comes from a check of the command's own. -/
theorem canEndWith_ownFailure {i : Instr} {st : Status} (h : st ∈ possible i) (hok : st ≠ .ok)
    (hbuilt : st ≠ .error .notConstructed) (hfits : st ≠ .refused .seqTooLong) : CanEndWith i st := by
  cases i with
  | crc | crcA | crcB | addrs | addr8 | setuid | writee8 | writene8 =>
    obtain rfl : st = _ := by simpa [possible, hok, hbuilt, hfits] using h
    exact ⟨outOfDomain true 0x00, _, _, rfl, rfl, rfl⟩
  | append | addrb =>
    obtain rfl | rfl : st = _ ∨ st = _ := by simpa [possible, hok, hbuilt, hfits] using h
    · exact ⟨outOfDomain true 0x00, _, _, rfl, rfl, rfl⟩
    · exact ⟨outOfDomain false 0x30, _, _, rfl, rfl, rfl⟩
  | req | wup | rid | rall | read | writee | writene | rseg | read8 => simp [possible, hok, hbuilt] at h

theorem canEndWith_of_possible {i : Instr} {st : Status} (h : st ∈ possible i) : CanEndWith i st := by
  by_cases hok : st = .ok
  · subst hok
    exact canEndWith_ok h
  by_cases hbuilt : st = .error .notConstructed
  · subst hbuilt
    exact canEndWith_notConstructed (mem_builderCommands_of_possible h)
  by_cases hfits : st = .refused .seqTooLong
  · subst hfits
    exact canEndWith_seqTooLong (mem_seqCommands_of_possible h)
  exact canEndWith_ownFailure h hok hbuilt hfits

/-- Settles O37: each STATUS of the table has its state, and no branch of a command answers another. -/
theorem outcomesPerCommand : Obligations.OutcomesPerCommand := fun i _ =>
  ⟨canEndWith_of_possible, fun ⟨s, t, out, _, h, hr⟩ => exec_statusIn i s t _ out h hr⟩

/-- NOT_CONSTRUCTED stands in the table of the builder commands alone. -/
theorem exec_resp_ne_notConstructed {i : Instr} {s t : State} {out : List Byte} (hi : i ∉ builderCommands)
    (h : exec i s = .next t) : t.resp ≠ .command (.error .notConstructed) out := fun hr =>
  hi (mem_builderCommands_of_possible (exec_statusIn i s t _ out h hr))

/-! ### The STATUS codes (R200 to R203) -/

/-- The error a code names (R201, R202). -/
def errorOfCode (b : Byte) : Option ErrorCode :=
  [.invalidInput, .invalidIdentifier, .invalidPayload, .invalidSegmentIndex, .invalidBlockIndex, .illegalCommand,
    .notConstructed].find? fun e => errorCode e == b

theorem errorOfCode_errorCode (e : ErrorCode) : errorOfCode (errorCode e) = some e := by
  cases e <;> rfl

theorem errorCode_injective : Function.Injective errorCode := fun e e' h =>
  Option.some.inj ((errorOfCode_errorCode e).symm.trans (h ▸ errorOfCode_errorCode e'))

/-- Settles O33: the codes as they are listed, and each names its error back. -/
theorem statusCodes : Obligations.StatusCodes :=
  ⟨rfl, rfl, rfl, rfl, rfl, rfl, rfl, rfl, fun _ => rfl, fun _ _ h => errorCode_injective h⟩

/-- Settles O34: the illegal word, the first shared check, and the tables without NOT_CONSTRUCTED. -/
theorem specErrors : Obligations.SpecErrors := by
  have hfree : ∀ i ∈ [Instr.crc, .crcA, .crcB, .addrb, .addrs, .addr8], i ∉ builderCommands := by decide
  exact ⟨fun _ _ _ => step_of_illegal, fun _ hi _ => exec_of_not_built hi,
    fun i hi _ _ _ h => exec_resp_ne_notConstructed (hfree i hi) h, rfl, rfl⟩

end Sys2Proof.Machine
end

section
/-! SUPPORT. The reset and hazards family (spec 70_reset_and_hazards.md): a construction in each of its cases, the block
at power-up, that every transaction completes, and which identifier a frame carries. -/

namespace Sys2Proof.Machine

open Sys2Proof.Claims

/-! ### Reading the builder of a state (R23) -/

theorem State.isSome_builder (s : State) : s.builder.isSome = s.built := by
  cases hb : s.built with
  | true => rw [State.builder_of_built hb, Option.isSome_some]
  | false => rw [State.builder_of_not_built hb, Option.isSome_none]

/-! ### A construction replaces the builder (R230, R232) -/

theorem Ends.appendCrc_eq {i : Instr} {s t : State} (h : Ends i s t) : t.appendCrc = s.appendCrc := by
  rw [h.frame_uid]

/-- Construction is the only way to change APPEND_CRC (R232). -/
theorem step_appendCrc {s t : State} (h : step s = .next t) :
    t.appendCrc = s.appendCrc ∨ ∃ r rest, s.port = .construct r :: rest := by
  obtain ⟨-, rfl⟩ | ⟨c, rest, i, -, -, he⟩ | ⟨c, rest, why, -, -, rfl⟩ | ⟨r, rest, hp, -⟩ := step_cases h
  · exact .inl rfl
  · exact .inl he.appendCrc_eq
  · exact .inl rfl
  · exact .inr ⟨r, rest, hp⟩

/-- Settles O30: the builder after a construction is a function of the construction alone, and BUILT says whether there
is one. -/
theorem constructionReplacesBuilder : Obligations.ConstructionReplacesBuilder := by
  refine ⟨fun s s' r rest rest' t t' hp hp' h h' => ?_, fun s t h hne => (step_appendCrc h).resolve_left hne⟩
  rw [step_of_port_construct hp] at h
  rw [step_of_port_construct hp'] at h'
  have hbuilder : t.builder = t'.builder := (construct_builder h).trans (construct_builder h').symm
  exact ⟨hbuilder, by rw [← State.isSome_builder, hbuilder, State.isSome_builder]⟩

/-! ### A construction in each of its cases (R230) -/

section Construct
variable {r : Construction} {s : State}

theorem constructionUid_of_omitted (hv : r.rstUidValid = false) : constructionUid r = some ⟨0x00, 0x00, 0x00, 0x00⟩ :=
  if_neg (by simp [hv])

theorem constructionUid_of_given (hv : r.rstUidValid = true) : constructionUid r = uidOfBytes r.rstUid :=
  if_pos hv

theorem constructionAppend_eq :
    constructionAppend r = if r.rstAppendValid = false then true else r.rstAppend := by
  unfold constructionAppend
  cases r.rstAppendValid <;> rfl

theorem construct_of_uid {u : Uid} (hu : constructionUid r = some u) :
    construct r s = constructOk u (constructionAppend r) s := by
  rw [construct, hu]

theorem construct_of_no_uid (hu : constructionUid r = none) : construct r s = constructFail s := by
  rw [construct, hu]

/-- The whole state after a construction that installs the identifier `u`. -/
theorem step_construct_of_uid {rest : List Transaction} {u : Uid} (hp : s.port = .construct r :: rest)
    (hu : constructionUid r = some u) :
    step s = .next { s with
      built := true, uid := u, appendCrc := (if r.rstAppendValid = false then true else r.rstAppend),
      port := rest, resp := .construction .ok } := by
  rw [step_of_port_construct hp, construct_of_uid hu, constructionAppend_eq]
  rfl

end Construct

/-- Settles O29: the identifier a construction installs decides which of its two ends it has. -/
theorem constructionOutcomes : Obligations.ConstructionOutcomes := by
  refine ⟨fun s r rest hp hv => ?_, fun s r rest u0 u1 u2 u3 hp hv hl => ?_, fun s r rest hp hv hl => ?_⟩
  · exact step_construct_of_uid hp (constructionUid_of_omitted hv)
  · have hu : constructionUid r = some ⟨u0, u1, u2, u3⟩ := by
      rw [constructionUid_of_given hv]
      exact uidOfBytes_eq_some.mpr hl
    exact step_construct_of_uid hp hu
  · have hu : constructionUid r = none := by
      rw [constructionUid_of_given hv]
      exact uidOfBytes_eq_none.mpr hl
    rw [step_of_port_construct hp, construct_of_no_uid hu]
    exact ⟨_, _, _, rfl⟩

/-! ### Power-up and reset (R230, R231) -/

theorem segmentAddress_eq_ofNat (n : Nat) : segmentAddress n = BitVec.ofNat 8 (n * 32) := by
  rw [segmentAddress, Nat.shiftLeft_eq]

/-- Settles O32: BUILT = 0 answers every builder command, and the other commands read no builder state. -/
theorem powerUpCommands : Obligations.PowerUpCommands := by
  rintro c o s rfl hfit
  refine ⟨rfl, fun i hi => exec_of_not_built hi rfl, fun d hd => ?_, fun d n hd hi hn => ?_, fun n hi hn => ?_,
    fun n hi hn => ?_⟩
  · exact ⟨crcCommand_of_hasSeq .a hd hfit, crcCommand_of_hasSeq .b hd hfit⟩
  · rw [← byteAddress_eq_ofNat]
    exact execAddrb_of_index hd (indexIn_eq_some.mpr ⟨hi, hn⟩)
  · rw [← segmentAddress_eq_ofNat]
    exact execAddrs_of_index (indexIn_eq_some.mpr ⟨hi, hn⟩)
  · have hindex : indexIn 0x3F (idx ((State.powerUp c).setOps o)) = some n := indexIn_eq_some.mpr ⟨hi, hn⟩
    obtain ⟨rfl, -⟩ := toNat_of_indexIn hindex
    rw [BitVec.ofNat_toNat]
    exact execAddr8_of_index hindex

/-- A block that has answered nothing yet. -/
theorem blockInv_of_resp_none {s : State} (hw : s.cfg.wf = true) (hr : s.resp = .none) : BlockInv s where
  params := hw
  outOnlyOk _ _ h := by rw [hr] at h; cases h
  refusedMarked _ _ h := by rw [hr] at h; cases h
  constructed _ h := by rw [hr] at h; cases h
  notConstructed _ h := by rw [hr] at h; cases h
  outFits _ _ _ _ h := by rw [hr] at h; cases h

/-- Settles O48: reset stands with the answer of a construction that succeeded, power-up with none. -/
theorem resetMeetsInvariant : Obligations.ResetMeetsInvariant :=
  ⟨blockInv_of_resp_construction rfl rfl (.inl ⟨rfl, rfl⟩), fun _ hw => blockInv_of_resp_none hw rfl⟩

/-! ### Every transaction completes (R205, R243) -/

/-- `n` steps take the `n` oldest transactions off the port, or all that wait. -/
theorem run_port (n : Nat) (s : State) :
    ∃ t : State, Host.Core.run Sys2Proof.core n s = .next t ∧ t.port = s.port.drop n := by
  induction n generalizing s with
  | zero => exact ⟨s, rfl, rfl⟩
  | succ n ih =>
    obtain ⟨u, hu⟩ := step_next s
    obtain ⟨t, hrun, hport⟩ := ih u
    refine ⟨t, (run_succ_of_step hu).trans hrun, ?_⟩
    rw [hport, step_port hu, List.drop_tail]

/-- Settles O46: a step always answers and takes the oldest transaction, so a run works the port off. -/
theorem everyTransactionCompletes : Obligations.EveryTransactionCompletes := by
  refine ⟨fun s => ?_, fun s => ?_⟩
  · obtain ⟨t, h⟩ := step_next s
    exact ⟨t, h, step_port h⟩
  · obtain ⟨t, hrun, hport⟩ := run_port s.port.length s
    exact ⟨t, hrun, by rw [hport, List.drop_length]⟩

/-! ### The identifier a frame carries (R241) -/

/-- A run of `m + n` steps is a run of `n` steps from where `m` steps lead. -/
theorem run_add {m n : Nat} {s t : State} (h : Host.Core.run Sys2Proof.core m s = .next t) :
    Host.Core.run Sys2Proof.core (m + n) s = Host.Core.run Sys2Proof.core n t := by
  induction m generalizing s with
  | zero =>
    cases h
    rw [Nat.zero_add]
  | succ m ih =>
    obtain ⟨u, hu⟩ := step_next s
    rw [run_succ_of_step hu] at h
    rw [Nat.add_right_comm, run_succ_of_step hu, ih h]

theorem mem_builderCommands_of_frameOpOf {i : Instr} {op : FrameOp} (h : frameOpOf i = some op) :
    i ∈ builderCommands := by
  cases i with
  | crc | crcA | crcB | append | addrb | addrs | addr8 | setuid => cases h
  | req | wup | rid | rall | read | writee | writene | rseg | read8 | writee8 | writene8 => decide

/-- What a frame command with an identifier span answers, in terms of the builder it finds. -/
theorem exec_frame_builder {i : Instr} {op : FrameOp} {p : Nat} {s t : State} (hop : frameOpOf i = some op)
    (hp : spanStart op = some p) (h : exec i s = .next t) :
    (∀ out, t.resp = .command .ok out → ∃ u f, s.builder = some (u, f) ∧ (out.drop p).take 4 = uidBytes u) ∧
    (s.builder = none → t.resp = .command (.error .notConstructed) []) := by
  cases hb : s.built with
  | true =>
    rw [State.builder_of_built hb]
    refine ⟨fun out hr => ⟨s.uid, s.appendCrc, rfl, ?_⟩, nofun⟩
    obtain ⟨x, rfl⟩ := okOut_exec_frame s hop t out h hr
    exact buildFrame_ident x s hp
  | false =>
    rw [exec_of_not_built (mem_builderCommands_of_frameOpOf hop) hb] at h
    cases h
    exact ⟨nofun, fun _ => rfl⟩

/-- Settles O51: the transactions before the frame leave the builder that is their fold, and the frame command's step,
the last of the run, reads that builder. -/
theorem frameCarriesLastIdentifier : Obligations.FrameCarriesLastIdentifier := by
  intro s txs c i op p hw hport hd hop hp
  obtain ⟨v, hrun, hlast, -, hbuilder⟩ := run_builder hw hport
  obtain ⟨t, hstep⟩ := step_next v
  refine ⟨t, (run_add hrun).trans (run_succ_of_step hstep), ?_⟩
  rw [step_of_command hlast hd] at hstep
  rw [← hbuilder]
  exact exec_frame_builder (s := (v.setPort []).setOps c.ops) hop hp hstep

end Sys2Proof.Machine
end
